-- ==== Sys2Proof/Word.lean ====
section
/-! DEFINITION. The names of the station's fixed parts (dispensers, banks, ports, consumers, hose classes, cold classes), small
tables indexed by them, and bytes. -/

namespace Sys2Proof

abbrev Byte := BitVec 8

/-- The four dispenser positions (00_scope.md, Connections). -/
inductive Disp | d0 | d1 | d2 | d3
  deriving DecidableEq, Repr

/-- The six cascade banks (R1). -/
inductive Bank | b0 | b1 | b2 | b3 | b4 | b5
  deriving DecidableEq, Repr

/-- The six ports, fixed to their roles by position (R191). -/
inductive Port | disp (d : Disp) | plant | sales
  deriving DecidableEq, Repr

/-- A party that can be connected to a bank (R92). -/
inductive Consumer | disp (d : Disp) | compressor
  deriving DecidableEq, Repr

/-- The two hose classes (00_scope.md, Hose classes). -/
inductive HoseClass | h70 | h35
  deriving DecidableEq, Repr

/-- The grades of precooling, deepest first (R58). -/
inductive ColdClass | a | b | c | n
  deriving DecidableEq, Repr

namespace Disp

def all : List Disp := [.d0, .d1, .d2, .d3]

def toNat : Disp → Nat
  | .d0 => 0 | .d1 => 1 | .d2 => 2 | .d3 => 3

def ofNat? : Nat → Option Disp
  | 0 => some .d0 | 1 => some .d1 | 2 => some .d2 | 3 => some .d3 | _ => none

end Disp

namespace Bank

def all : List Bank := [.b0, .b1, .b2, .b3, .b4, .b5]

def toNat : Bank → Nat
  | .b0 => 0 | .b1 => 1 | .b2 => 2 | .b3 => 3 | .b4 => 4 | .b5 => 5

def ofNat? : Nat → Option Bank
  | 0 => some .b0 | 1 => some .b1 | 2 => some .b2 | 3 => some .b3 | 4 => some .b4 | 5 => some .b5 | _ => none

end Bank

/-- One value for each dispenser. -/
structure PerDisp (α : Type) where
  d0 : α
  d1 : α
  d2 : α
  d3 : α
  deriving DecidableEq, Repr

namespace PerDisp
variable {α β : Type}

def same (x : α) : PerDisp α := ⟨x, x, x, x⟩

def get (v : PerDisp α) : Disp → α
  | .d0 => v.d0 | .d1 => v.d1 | .d2 => v.d2 | .d3 => v.d3

def set (v : PerDisp α) (d : Disp) (x : α) : PerDisp α :=
  match d with
  | .d0 => { v with d0 := x }
  | .d1 => { v with d1 := x }
  | .d2 => { v with d2 := x }
  | .d3 => { v with d3 := x }

def map (f : α → β) (v : PerDisp α) : PerDisp β := ⟨f v.d0, f v.d1, f v.d2, f v.d3⟩

def toList (v : PerDisp α) : List α := [v.d0, v.d1, v.d2, v.d3]

end PerDisp

/-- One value for each bank. -/
structure PerBank (α : Type) where
  b0 : α
  b1 : α
  b2 : α
  b3 : α
  b4 : α
  b5 : α
  deriving DecidableEq, Repr

namespace PerBank
variable {α β : Type}

def same (x : α) : PerBank α := ⟨x, x, x, x, x, x⟩

def get (v : PerBank α) : Bank → α
  | .b0 => v.b0 | .b1 => v.b1 | .b2 => v.b2 | .b3 => v.b3 | .b4 => v.b4 | .b5 => v.b5

def set (v : PerBank α) (b : Bank) (x : α) : PerBank α :=
  match b with
  | .b0 => { v with b0 := x }
  | .b1 => { v with b1 := x }
  | .b2 => { v with b2 := x }
  | .b3 => { v with b3 := x }
  | .b4 => { v with b4 := x }
  | .b5 => { v with b5 := x }

def map (f : α → β) (v : PerBank α) : PerBank β := ⟨f v.b0, f v.b1, f v.b2, f v.b3, f v.b4, f v.b5⟩

def toList (v : PerBank α) : List α := [v.b0, v.b1, v.b2, v.b3, v.b4, v.b5]

end PerBank

/-- One value for each consumer: the four dispensers and the compressor. -/
structure PerConsumer (α : Type) where
  disp : PerDisp α
  compressor : α
  deriving DecidableEq, Repr

namespace PerConsumer
variable {α : Type}

def same (x : α) : PerConsumer α := ⟨.same x, x⟩

def get (v : PerConsumer α) : Consumer → α
  | .disp d => v.disp.get d
  | .compressor => v.compressor

def set (v : PerConsumer α) (c : Consumer) (x : α) : PerConsumer α :=
  match c with
  | .disp d => { v with disp := v.disp.set d x }
  | .compressor => { v with compressor := x }

def toList (v : PerConsumer α) : List α := v.disp.toList ++ [v.compressor]

end PerConsumer

/-- One value for each port. -/
structure PerPort (α : Type) where
  disp : PerDisp α
  plant : α
  sales : α
  deriving DecidableEq, Repr

namespace PerPort
variable {α : Type}

def same (x : α) : PerPort α := ⟨.same x, x, x⟩

def get (v : PerPort α) : Port → α
  | .disp d => v.disp.get d
  | .plant => v.plant
  | .sales => v.sales

def set (v : PerPort α) (p : Port) (x : α) : PerPort α :=
  match p with
  | .disp d => { v with disp := v.disp.set d x }
  | .plant => { v with plant := x }
  | .sales => { v with sales := x }

end PerPort

end Sys2Proof
end

