-- ==== Sys2Proof/Syntax.lean ====
section
/-! DEFINITION. The commands the GZ460 takes: one constructor of Instr for each row of spec/opcode_table.json.
A request carries the port it arrived on and the values of its payload. A payload that does not hold the command's values in
the form of R192 is none: the command's own description says what the part answers then. Numbers stand as they were carried,
before any range check, and a value from a named list as the byte that was carried. -/

namespace Sys2Proof

/-- BANK_CONFIG's values (R2). serves is a set of hose classes: bit 0 H70, bit 1 H35 (R192). With configured false the other
values are not examined (R3). -/
structure BankConfigArgs where
  bank : Nat
  configured : Bool
  volume : Nat
  rated : Nat
  tier : Nat
  serves : Byte
  refillStart : Nat
  refillStop : Nat
  deriving DecidableEq, Repr

/-- One entry of a BANK_REPORT (R4). -/
structure BankReading where
  bank : Nat
  pressure : Nat
  temperature : Int
  deriving DecidableEq, Repr

/-- TABLE_ROW's values (R13): as many entries as the payload held. -/
structure TableRowArgs where
  row : Nat
  entries : List Nat
  deriving DecidableEq, Repr

/-- NOZZLE_ON's values (R30). -/
structure NozzleOnArgs where
  hosePressure : Nat
  tankVolume : Option Nat
  tankPressure : Option Nat
  tankTemperature : Option Int
  deriving DecidableEq, Repr

/-- REPORT's values (R33); a well-formed one carries both tank values or neither. -/
structure ReportArgs where
  hosePressure : Nat
  hoseTemperature : Int
  tankPressure : Option Nat
  tankTemperature : Option Int
  deriving DecidableEq, Repr

/-- SET_DISPENSER's values (R41). -/
structure SetDispenserArgs where
  disp : Nat
  hoseClass : Nat
  interval : Nat
  deriving DecidableEq, Repr

/-- PROFILE_LOAD's values in payload order (R56): the 24 APRR cells band by band, A, B, C, N within a band, then six target
pressures. -/
structure ProfileArgs where
  hoseClass : Nat
  dpUp : Nat
  dpLow : Nat
  targetSoc : Nat
  nominalMass : Nat
  cells : List Nat
  targets : List Nat
  deriving DecidableEq, Repr

/-- COLD_CONFIG's values (R77). -/
structure ColdConfigArgs where
  capacity : Nat
  loadA : Nat
  loadB : Nat
  loadC : Nat
  limitA : Int
  limitB : Int
  limitC : Int
  deriving DecidableEq, Repr

/-- CHILLER_REPORT's values (R80). -/
structure ChillerArgs where
  state : Nat
  rate : Option Nat
  deriving DecidableEq, Repr

/-- LANE_SETTINGS' values (R95). -/
structure LaneSettingsArgs where
  switchTime : Nat
  dpStart : Nat
  dpSwitch : Nat
  yieldTime : Nat
  deriving DecidableEq, Repr

/-- VALVE_REPORT's values (R105). -/
structure ValveArgs where
  bank : Nat
  consumer : Nat
  deriving DecidableEq, Repr

/-- SET_METER_FACTOR's values (R125). -/
structure MeterFactorArgs where
  disp : Nat
  factor : Nat
  deriving DecidableEq, Repr

/-- SET_PRICE's values (R130). -/
structure PriceArgs where
  line : Nat
  price : Nat
  deriving DecidableEq, Repr

/-- AUTHORIZE's values (R133). -/
structure AuthorizeArgs where
  disp : Nat
  kind : Nat
  account : Nat
  group : Nat
  line : Nat
  limit : Nat
  expiry : Nat
  preset : Option Nat
  vehicles : Option Nat
  deriving DecidableEq, Repr

/-- REVOKE's values (R144): the scope byte, the group, account or entry number it carries (0 where it carries none), and the
mode byte. -/
structure RevokeArgs where
  scope : Nat
  value : Nat
  mode : Nat
  deriving DecidableEq, Repr

/-- SET_SEVERITY's values (R172). -/
structure SeverityArgs where
  kind : Nat
  level : Nat
  deriving DecidableEq, Repr

/-- COUNT_SELECT's values (R179); kind 0 is NONE. -/
structure CountSelectArgs where
  counter : Nat
  kind : Nat
  deriving DecidableEq, Repr

/-- The steps of the part: resets and supply events, field lines, frames, requests, and the expiries and completions of its
own timers and operations. -/
inductive Instr
  | powerOnReset
  | warmReset
  | meterPulse (d : Disp)
  | calSwitchChange (asserted : Bool)
  | esdInputChange (active : Bool)
  | emptyFrame (p : Port)
  | badFrame (p : Port)
  | unknownCommandName (p : Port)
  | bankConfig (p : Port) (a : Option BankConfigArgs)
  | bankReport (p : Port) (a : Option (List BankReading))
  | isolateSet (p : Port) (a : Option Byte)
  | isolateClear (p : Port) (a : Option Byte)
  | clearBank (p : Port) (a : Option Nat)
  | tableBegin (p : Port)
  | tableRow (p : Port) (a : Option TableRowArgs)
  | tableEnd (p : Port)
  | ambientReport (p : Port) (a : Option Int)
  | compressorReport (p : Port) (a : Option Nat)
  | readBanks (p : Port)
  | nozzleOn (p : Port) (a : Option NozzleOnArgs)
  | report (p : Port) (a : Option ReportArgs)
  | stopFill (p : Port)
  | nozzleOff (p : Port)
  | readSession (p : Port) (a : Option Nat)
  | setDispenser (p : Port) (a : Option SetDispenserArgs)
  | setSettle (p : Port) (a : Option Nat)
  | holdSet (p : Port) (a : Option Byte)
  | holdClear (p : Port) (a : Option Byte)
  | profileLoad (p : Port) (a : Option ProfileArgs)
  | coldConfig (p : Port) (a : Option ColdConfigArgs)
  | coldSet (p : Port) (a : Option Nat)
  | chillerReport (p : Port) (a : Option ChillerArgs)
  | laneSettings (p : Port) (a : Option LaneSettingsArgs)
  | refillStop (p : Port) (a : Option Nat)
  | valveReport (p : Port) (a : Option ValveArgs)
  | calUnlock (p : Port)
  | setMeterFactor (p : Port) (a : Option MeterFactorArgs)
  | setPrice (p : Port) (a : Option PriceArgs)
  | clearPrice (p : Port) (a : Option Nat)
  | authorize (p : Port) (a : Option AuthorizeArgs)
  | cancelAuth (p : Port) (a : Option Nat)
  | revoke (p : Port) (a : Option RevokeArgs)
  | readAuth (p : Port) (a : Option (Option Nat))
  | exportStart (p : Port) (a : Option (Option Nat))
  | exportNext (p : Port)
  | release (p : Port) (a : Option Nat)
  | readLogStatus (p : Port)
  | setSeverity (p : Port) (a : Option SeverityArgs)
  | clearFaults (p : Port) (a : Option Nat)
  | countSelect (p : Port) (a : Option CountSelectArgs)
  | readFaults (p : Port)
  | armEsd (p : Port)
  | restart (p : Port)
  | clearLock (p : Port) (a : Option Nat)
  | fetchEvents (p : Port)
  | readStatus (p : Port)
  | setTime (p : Port) (a : Option Nat)
  | setStationId (p : Port) (a : Option Nat)
  | bankStalenessExpiry (b : Bank)
  | ambientStalenessExpiry
  | chillerStalenessExpiry
  | supervisionExpiry (d : Disp)
  | waitTimerExpiry (d : Disp)
  | settleTimerExpiry (d : Disp)
  | precoolGraceExpiry (d : Disp)
  | exceedanceExpiry (d : Disp)
  | tankDataExpiry (d : Disp)
  | yieldTimerExpiry (d : Disp)
  | authExpiry (number : Nat)
  | rechargeStep
  | rampClockTick (d : Disp)
  | stationClockTick
  | switchCompletion (c : Consumer)
  | commitCompletion
  | eraseCompletion
  | scanCompletion
  | backupSupplyLoss
  | powerLoss
  deriving DecidableEq, Repr

end Sys2Proof
end

