-- ==== Sys2Proof/Machine/State.lean ====
section
/-! DEFINITION. The state of the GZ460, block by block, as plain data; the outcomes a step may stop with; the state after the
power-on reset of a new part. Quantities are integers in the units of 00_scope.md: pressures 0.01 MPa, temperatures 0.1 °C,
densities 0.01 kg/m³, masses grams, cold kJ, timers milliseconds left (none: stopped), times station-clock seconds. -/

namespace Sys2Proof.Machine

/-! ### Inventory Unit (R1, R11, R20, R21) -/

inductive Service | unconfigured | inService | isolated | fault
  deriving DecidableEq, Repr

/-- One entry of the bank table (R1), with its staleness timer (R6). -/
structure BankEntry where
  configured : Bool
  volume : Nat
  rated : Nat
  tier : Nat
  servesH70 : Bool
  servesH35 : Bool
  refillStart : Nat
  refillStop : Nat
  service : Service
  fresh : Bool
  pressure : Nat
  temperature : Int
  reportTime : Nat
  density : Nat
  inventory : Nat
  holder : Option Consumer
  requestTime : Option Nat
  staleTimer : Option Nat
  deriving DecidableEq, Repr

inductive TableState | invalid | loading | valid
  deriving DecidableEq, Repr

/-- One row of the gas-property table: ten densities and the received mark (R11). -/
structure GasRow where
  entries : List Nat
  received : Bool
  deriving DecidableEq, Repr

/-- The gas-property table (R11): six rows, the state, and the two reference densities. -/
structure GasTable where
  state : TableState
  rows : List GasRow
  refH70 : Option Nat
  refH35 : Option Nat
  deriving DecidableEq, Repr

/-- The ambient record (R20). -/
structure Ambient where
  temperature : Int
  time : Nat
  fresh : Bool
  staleTimer : Option Nat
  deriving DecidableEq, Repr

inductive CompressorState | unreported | available | running | fault
  deriving DecidableEq, Repr

/-- The compressor record (R21). -/
structure Compressor where
  state : CompressorState
  time : Nat
  deriving DecidableEq, Repr

structure Inventory where
  banks : PerBank BankEntry
  isolation : PerBank Bool
  table : GasTable
  ambient : Ambient
  compressor : Compressor
  deriving DecidableEq, Repr

/-! ### Session Units (R24 to R27, R41, R59, R88) -/

inductive Phase | idle | coldWait | laneWait | switching | flowing | bankWait | closing | commitWait
  deriving DecidableEq, Repr

inductive FillKind | comm | nonComm
  deriving DecidableEq, Repr

/-- The termination reasons, in the order of R42's table, which is the order of the codes of R159. -/
inductive Reason
  | targetSoc | targetPressure | budgetReached | nozzleOff | stopRequest | linkLost | rampOver | pressureLimit | tankHot
  | precoolLost | noCold | noBank | bankTimeout | banksExhausted | revoked | faultStop | shutdown | resetRecovered
  deriving DecidableEq, Repr

/-- One entry of the bank-use list (R24). -/
structure BankUse where
  bank : Bank
  massAtGrant : Nat
  drawn : Nat
  inventoryAtGrant : Nat
  deriving DecidableEq, Repr

/-- The vehicle record (R25). -/
structure Vehicle where
  volume : Nat
  pressure : Nat
  temperature : Int
  time : Nat
  deriving DecidableEq, Repr

/-- One sample of the fill trace (R36). -/
structure Sample where
  clock : Nat
  pressure : Nat
  temperature : Int
  deriving DecidableEq, Repr

/-- The session record (R24) with the ramp fields of R59 and the precool fields of R88. rampPart is the part of a tenth of a
second that the ramp clock has accrued (R60), in milliseconds. -/
structure Session where
  phase : Phase
  authNumber : Option Nat
  hoseClass : Option HoseClass
  fillKind : Option FillKind
  band : Option Nat
  classAtStart : Option ColdClass
  classNow : Option ColdClass
  claim : Nat
  drawAcc : Nat
  stamp : Option Nat
  rampBaseline : Nat
  rampClock : Nat
  rampPart : Nat
  aprr : Nat
  lastCeiling : Nat
  currentBank : Option Bank
  bankUse : List BankUse
  pulses : Nat
  k : Nat
  metrology : Nat
  mass : Nat
  budget : Nat
  flowBegun : Bool
  hosePressure : Nat
  hoseTemperature : Option Int
  vehicle : Option Vehicle
  trace : List Sample
  supervision : Option Nat
  waitTimer : Option Nat
  settleTimer : Option Nat
  graceTimer : Option Nat
  exceedTimer : Option Nat
  tankTimer : Option Nat
  checkActive : Bool
  tankLapsed : Bool
  strikes : Nat
  lagStart : Option Nat
  revokeOnClose : Bool
  coldShortfall : Bool
  startTime : Nat
  endTime : Option Nat
  timeUnset : Bool
  reason : Option Reason
  deriving DecidableEq, Repr

/-- One Session Unit: its record, the nozzle flag (R26), the class and interval set by SET_DISPENSER (R41), its place in the
held set (R51), its permit output (R42) and the time left of the route switch toward it (R93). -/
structure SessionUnit where
  sess : Session
  nozzleOn : Bool
  hoseClass : Option HoseClass
  interval : Nat
  held : Bool
  permit : Bool
  switchTimer : Option Nat
  deriving DecidableEq, Repr

/-! ### Ramp Engine (R55) -/

/-- One ambient band of a fill profile: the four APRR cells and the non-comm target pressure. -/
structure BandRow where
  a : Nat
  b : Nat
  c : Nat
  n : Nat
  target : Nat
  deriving DecidableEq, Repr

structure Profile where
  valid : Bool
  dpUp : Nat
  dpLow : Nat
  targetSoc : Nat
  nominalMass : Nat
  bands : List BandRow
  deriving DecidableEq, Repr

structure RampEngine where
  h70 : Profile
  h35 : Profile
  deriving DecidableEq, Repr

/-! ### Cold Reserve Unit (R75, R76, R80, R82) -/

structure ColdConfig where
  capacity : Nat
  loadA : Nat
  loadB : Nat
  loadC : Nat
  limitA : Int
  limitB : Int
  limitC : Int
  deriving DecidableEq, Repr

/-- The chiller record (R80). -/
structure Chiller where
  running : Bool
  rate : Nat
  time : Nat
  fresh : Bool
  staleTimer : Option Nat
  deriving DecidableEq, Repr

structure ColdReserve where
  config : ColdConfig
  reserve : Nat
  queue : List Disp
  lastStamp : Nat
  chiller : Chiller
  rechargeTimer : Nat
  deriving DecidableEq, Repr

/-! ### Lane Arbiter (R92, R95, R99, R106, R108) -/

structure LaneSettings where
  switchTime : Nat
  dpStart : Nat
  dpSwitch : Nat
  yieldTime : Nat
  deriving DecidableEq, Repr

/-- One entry of the lane wait list (R99). waited is the entry's time on the list in milliseconds. -/
structure Waiter where
  disp : Disp
  joined : Nat
  yieldTimer : Option Nat
  due : Bool
  waited : Nat
  deriving DecidableEq, Repr

inductive RefillState | none | switching | running
  deriving DecidableEq, Repr

inductive EndReason | stopReached | stopped | compressorFault | bankOut | shutdown | yielded
  deriving DecidableEq, Repr

/-- The outcome of the last refill run that ended (R108). -/
structure RefillOutcome where
  bank : Bank
  reason : EndReason
  deriving DecidableEq, Repr

/-- The refill record (R108), with the time left of the route switch toward the compressor (R93). -/
structure RefillRecord where
  state : RefillState
  bank : Option Bank
  requestTime : Option Nat
  outcome : Option RefillOutcome
  switchTimer : Option Nat
  deriving DecidableEq, Repr

/-- One entry of the deferred refill list (R106). -/
structure Deferred where
  bank : Bank
  time : Nat
  deriving DecidableEq, Repr

/-- valves holds true for OPEN; a valve's drive output is asserted exactly while the valve is OPEN (R92). deferred is in the order of
joining, a choice of the model (assumption 31). -/
structure LaneArbiter where
  valves : PerBank (PerConsumer Bool)
  settings : LaneSettings
  waitList : List Waiter
  refillQueue : List Bank
  deferred : List Deferred
  refill : RefillRecord
  deriving DecidableEq, Repr

/-! ### Meter Unit (R115) -/

/-- The pending change (R115). timeUnset says whether the station clock had been set when time was taken (R160). -/
structure PendingChange where
  disp : Disp
  oldFactor : Nat
  newFactor : Nat
  counter : Nat
  time : Nat
  timeUnset : Bool
  recorded : Bool
  deriving DecidableEq, Repr

/-- calSwitch is the level of the calibration switch input; window is the count of commands remaining, 0 when closed. -/
structure MeterUnit where
  factor : PerDisp Nat
  metrology : Nat
  change : Option PendingChange
  unaccounted : PerDisp Nat
  calSwitch : Bool
  window : Nat
  deriving DecidableEq, Repr

/-! ### Authorization Table (R129, R132, R135, R143) -/

inductive AuthKind | single | fleetRun
  deriving DecidableEq, Repr

/-- One entry (R132); bound false is PENDING. -/
structure AuthEntry where
  number : Nat
  disp : Disp
  kind : AuthKind
  account : Nat
  group : Nat
  line : Nat
  price : Nat
  limit : Nat
  preset : Option Nat
  budget : Nat
  vehicles : Option Nat
  expiry : Nat
  timer : Option Nat
  bound : Bool
  revokeOnClose : Bool
  deriving DecidableEq, Repr

inductive RevokeScope | all | fleet | account | entry | none
  deriving DecidableEq, Repr

inductive RevokeMode | drain | immediate
  deriving DecidableEq, Repr

/-- The revocation in progress (R143). -/
structure Revocation where
  mode : RevokeMode
  scope : RevokeScope
  outstanding : PerDisp Bool
  deriving DecidableEq, Repr

/-- tariffs holds eight lines, none where invalid. entries holds the occupied ones of the sixteen positions, in ascending
order of number (R149). -/
structure AuthTable where
  tariffs : List (Option Nat)
  entries : List AuthEntry
  lastNumber : Nat
  revocation : Option Revocation
  deriving DecidableEq, Repr

/-! ### Log Controller (R151 to R170) -/

/-- A sale record (R159). A queued record has sequence number 0 and identity 0 until its commit starts. -/
structure SaleRecord where
  disp : Disp
  station : Nat
  seq : Nat
  startTime : Nat
  endTime : Nat
  authNumber : Nat
  group : Nat
  line : Nat
  account : Nat
  price : Nat
  limit : Nat
  mass : Nat
  amount : Nat
  k : Nat
  metrology : Nat
  soc : Option Nat
  hoseClass : Option HoseClass
  fillKind : Option FillKind
  classAtStart : Option ColdClass
  classAtEnd : Option ColdClass
  reason : Option Reason
  timeUnset : Bool
  capped : Bool
  coldShortfall : Bool
  bankUse : List (Bank × Nat)
  deriving DecidableEq, Repr

/-- A calibration record (R160). -/
structure CalRecord where
  disp : Disp
  station : Nat
  seq : Nat
  time : Nat
  oldFactor : Nat
  newFactor : Nat
  counter : Nat
  timeUnset : Bool
  deriving DecidableEq, Repr

inductive LogRecord | sale (r : SaleRecord) | cal (r : CalRecord)
  deriving DecidableEq, Repr

/-- Where a queued record comes from (R156). -/
inductive Source | session (d : Disp) | recovered (d : Disp) | calibration
  deriving DecidableEq, Repr

structure QueueEntry where
  source : Source
  record : LogRecord
  deriving DecidableEq, Repr

/-- The array's operation state (R152). -/
inductive ArrayOp | idle | committing (e : QueueEntry) (slot : Nat) (seq : Nat) | erasing (block : Nat)
  deriving DecidableEq, Repr

/-- What the Log Controller derives from the array (R151). -/
structure LogView where
  erased : Nat
  oldest : Option Nat
  newest : Option Nat
  writePos : Nat
  deriving DecidableEq, Repr

/-- An occupied open-session slot (R166). -/
structure OpenSlot where
  authNumber : Nat
  account : Nat
  group : Nat
  line : Nat
  price : Nat
  limit : Nat
  hoseClass : Option HoseClass
  startTime : Nat
  startUnset : Bool
  k : Nat
  metrology : Nat
  fillKind : Option FillKind
  pulses : Nat
  classAtStart : Option ColdClass
  classNow : Option ColdClass
  coldShortfall : Bool
  bankUse : List (Bank × Nat)
  committing : Option Nat
  deriving DecidableEq, Repr

/-- The retained memory behind its validity marker (R166). -/
structure Retained where
  marker : Bool
  slots : PerDisp (Option OpenSlot)
  release : Nat
  totalizers : PerDisp Nat
  deriving DecidableEq, Repr

/-- array lists the COMMITTED slots with their records, slots strictly rising; a slot it does not list is ERASED. view is none
until the start-up scan completes. carried: the operation in progress began before a reset or a loss of power (R152).
recoveryLeft counts the records recovery queued that have not committed (R170). -/
structure LogController where
  array : List (Nat × LogRecord)
  view : Option LogView
  op : ArrayOp
  carried : Bool
  queue : List QueueEntry
  offers : List QueueEntry
  reserved : Nat
  cursor : Nat
  delivered : Nat
  stream : Bool
  recovering : Bool
  recoveryLeft : Nat
  retained : Retained
  deriving DecidableEq, Repr

/-! ### Fault Monitor (R171 to R187) -/

inductive FaultKind
  | sensorRange | bankStale | ambientStale | linkLost | frameError | rampOver | pressureLimit | valveFault
  | compressorFault | leakFlow | balanceMismatch | esdInput | retainLost | calSwitch
  deriving DecidableEq, Repr

inductive Severity | note | stop | shutdown
  deriving DecidableEq, Repr

/-- One value for each fault kind. -/
structure PerKind (α : Type) where
  sensorRange : α
  bankStale : α
  ambientStale : α
  linkLost : α
  frameError : α
  rampOver : α
  pressureLimit : α
  valveFault : α
  compressorFault : α
  leakFlow : α
  balanceMismatch : α
  esdInput : α
  retainLost : α
  calSwitch : α
  deriving DecidableEq, Repr

def PerKind.same {α : Type} (x : α) : PerKind α := ⟨x, x, x, x, x, x, x, x, x, x, x, x, x, x⟩

def PerKind.get {α : Type} (v : PerKind α) : FaultKind → α
  | .sensorRange => v.sensorRange | .bankStale => v.bankStale | .ambientStale => v.ambientStale
  | .linkLost => v.linkLost | .frameError => v.frameError | .rampOver => v.rampOver
  | .pressureLimit => v.pressureLimit | .valveFault => v.valveFault | .compressorFault => v.compressorFault
  | .leakFlow => v.leakFlow | .balanceMismatch => v.balanceMismatch | .esdInput => v.esdInput
  | .retainLost => v.retainLost | .calSwitch => v.calSwitch

def PerKind.set {α : Type} (v : PerKind α) (k : FaultKind) (x : α) : PerKind α :=
  match k with
  | .sensorRange => { v with sensorRange := x }
  | .bankStale => { v with bankStale := x }
  | .ambientStale => { v with ambientStale := x }
  | .linkLost => { v with linkLost := x }
  | .frameError => { v with frameError := x }
  | .rampOver => { v with rampOver := x }
  | .pressureLimit => { v with pressureLimit := x }
  | .valveFault => { v with valveFault := x }
  | .compressorFault => { v with compressorFault := x }
  | .leakFlow => { v with leakFlow := x }
  | .balanceMismatch => { v with balanceMismatch := x }
  | .esdInput => { v with esdInput := x }
  | .retainLost => { v with retainLost := x }
  | .calSwitch => { v with calSwitch := x }

/-- The place to which a fault is assigned (R171). -/
inductive Site | station | disp (d : Disp) | bank (b : Bank)
  deriving DecidableEq, Repr

/-- A captured context (R174). -/
structure Context where
  kind : FaultKind
  site : Site
  severity : Severity
  time : Nat
  timeUnset : Bool
  phase : Option Phase
  hosePressure : Option Nat
  bank : Option Bank
  consumer : Option Consumer
  trace : List Sample
  deriving DecidableEq, Repr

/-- One fault counter (R178); sel none is NONE. -/
structure Counter where
  sel : Option FaultKind
  value : Nat
  deriving DecidableEq, Repr

inductive Mode | starting | restricted | run | shutdown
  deriving DecidableEq, Repr

structure FaultMonitor where
  severity : PerKind Severity
  firstSevere : Option Context
  firstNote : Option Context
  nextSevere : PerKind Bool
  nextNote : PerKind Bool
  counters : List Counter
  mode : Mode
  demand : Bool
  esdArmed : Bool
  esdActive : Bool
  locked : PerDisp Bool
  deriving DecidableEq, Repr

/-! ### Port Interface (R191, R194, R195, R197, R198) -/

inductive Status
  | ok | badFrame | wrongPort | badValue | busy | notReady | notAllowed | notFound | noAuth | held | locked | logFull
  deriving DecidableEq, Repr

/-- One value of a reply's payload, by the encodings of R192. -/
inductive Val
  /-- a number whose range holds no negative value: 4 bytes -/
  | num (n : Nat)
  /-- a number that may be negative: 4 bytes, two's complement -/
  | int (i : Int)
  /-- a value from a named list, a set of one byte, or the count of a list: 1 byte -/
  | byte (n : Nat)
  /-- a set of fault kinds: 2 bytes -/
  | kinds (n : Nat)
  /-- the byte that precedes an optional value -/
  | present (b : Bool)
  /-- bytes whose layout a rule gives (records, fault contexts) -/
  | raw (b : List Byte)
  deriving DecidableEq, Repr

structure Reply where
  status : Status
  payload : List Val
  deriving DecidableEq, Repr

inductive DispEvent | stateChanged | sessionEnded | authReady | rampLag | locked
  deriving DecidableEq, Repr

inductive PlantEvent | refillGrant | refillDone | refillSuspended | faultRecorded | modeChanged | calRecorded
  deriving DecidableEq, Repr

inductive SalesEvent | saleCommitted | authExpired | authConsumed | revokeDone | logLow | modeChanged
  deriving DecidableEq, Repr

/-- The event set of a dispenser port (R195). -/
structure DispEvents where
  stateChanged : Bool
  sessionEnded : Bool
  authReady : Bool
  rampLag : Bool
  locked : Bool
  deriving DecidableEq, Repr

/-- The event set of the plant port (R195). -/
structure PlantEvents where
  refillGrant : Bool
  refillDone : Bool
  refillSuspended : Bool
  faultRecorded : Bool
  modeChanged : Bool
  calRecorded : Bool
  deriving DecidableEq, Repr

/-- The event set of the sales port (R195). -/
structure SalesEvents where
  saleCommitted : Bool
  authExpired : Bool
  authConsumed : Bool
  revokeDone : Bool
  logLow : Bool
  modeChanged : Bool
  deriving DecidableEq, Repr

structure PortUnit where
  slots : PerPort Reply
  dispEvents : PerDisp DispEvents
  plantEvents : PlantEvents
  salesEvents : SalesEvents
  attention : PerPort Bool
  clock : Nat
  clockSet : Bool
  stationId : Nat
  idWritten : Bool
  deriving DecidableEq, Repr

/-! ### The whole part -/

/-- The state of the part. powered is whether main power is applied; freeCount counts the free values used (assumption 1);
pending is the queue of commands waiting to be taken, first in, first out. -/
structure State where
  port : PortUnit
  inv : Inventory
  unit : PerDisp SessionUnit
  settleTime : Nat
  ramp : RampEngine
  cold : ColdReserve
  lane : LaneArbiter
  meter : MeterUnit
  auth : AuthTable
  log : LogController
  fault : FaultMonitor
  powered : Bool
  freeCount : Nat
  pending : List Instr
  deriving DecidableEq, Repr

/-- Why a step may stop with a fault. The part never stops: every fault the spec names (R171) is an event that the Fault
Monitor records and acts on, within a next state. So this has no constructor. -/
inductive Fault
  deriving DecidableEq, Repr

/-- Why a step may refuse a command. -/
inductive Refusal
  /-- Raised by exec for a command without a meaning. No command is without one. Safe: a refused command proves nothing. -/
  | notModelled (mnemonic : String)
  deriving DecidableEq, Repr

/-! ### Reset values -/

/-- R1, last column. -/
def BankEntry.unconfigured : BankEntry :=
  { configured := false, volume := 0, rated := 0, tier := 0, servesH70 := false, servesH35 := false, refillStart := 0,
    refillStop := 0, service := .unconfigured, fresh := false, pressure := 0, temperature := 0, reportTime := 0, density := 0,
    inventory := 0, holder := none, requestTime := none, staleTimer := none }

/-- R11: INVALID, every entry 0, no row received, both reference densities absent. -/
def GasTable.reset : GasTable :=
  { state := .invalid, rows := List.replicate 6 { entries := List.replicate 10 0, received := false }, refH70 := none,
    refH35 := none }

/-- R1, R11, R20, R21. -/
def Inventory.reset : Inventory :=
  { banks := .same .unconfigured, isolation := .same false, table := .reset,
    ambient := { temperature := 0, time := 0, fresh := false, staleTimer := none },
    compressor := { state := .unreported, time := 0 } }

/-- R24, last column; R59; R88. -/
def Session.reset : Session :=
  { phase := .idle, authNumber := none, hoseClass := none, fillKind := none, band := none, classAtStart := none,
    classNow := none, claim := 0, drawAcc := 0, stamp := none, rampBaseline := 0, rampClock := 0, rampPart := 0, aprr := 0,
    lastCeiling := 0, currentBank := none, bankUse := [], pulses := 0, k := 0, metrology := 0, mass := 0, budget := 0,
    flowBegun := false, hosePressure := 0, hoseTemperature := none, vehicle := none, trace := [], supervision := none,
    waitTimer := none, settleTimer := none, graceTimer := none, exceedTimer := none, tankTimer := none, checkActive := false,
    tankLapsed := false, strikes := 0, lagStart := none, revokeOnClose := false, coldShortfall := false, startTime := 0,
    endTime := none, timeUnset := false, reason := none }

/-- R54. -/
def SessionUnit.reset : SessionUnit :=
  { sess := .reset, nozzleOn := false, hoseClass := none, interval := 1000, held := false, permit := false,
    switchTimer := none }

/-- R55: INVALID, every field 0. -/
def Profile.reset : Profile :=
  { valid := false, dpUp := 0, dpLow := 0, targetSoc := 0, nominalMass := 0,
    bands := List.replicate 6 { a := 0, b := 0, c := 0, n := 0, target := 0 } }

/-- R75, R76, R80, R82, R84; R81: the recharge timer runs with a period of 1 s from the reset. -/
def ColdReserve.reset : ColdReserve :=
  { config := { capacity := 0, loadA := 0, loadB := 0, loadC := 0, limitA := 0, limitB := 0, limitC := 0 }, reserve := 0,
    queue := [], lastStamp := 0,
    chiller := { running := false, rate := 0, time := 0, fresh := false, staleTimer := none }, rechargeTimer := 1000 }

/-- R92, R95, R99, R106, R108. -/
def LaneArbiter.reset : LaneArbiter :=
  { valves := .same (.same false), settings := { switchTime := 600, dpStart := 500, dpSwitch := 200, yieldTime := 10 },
    waitList := [], refillQueue := [], deferred := [],
    refill := { state := .none, bank := none, requestTime := none, outcome := none, switchTimer := none } }

/-- R129, R132, R135, R143. -/
def AuthTable.reset : AuthTable :=
  { tariffs := List.replicate 8 none, entries := [], lastNumber := 0, revocation := none }

/-- R171: the default severities. -/
def defaultSeverity : FaultKind → Severity
  | .sensorRange => .note | .bankStale => .note | .ambientStale => .note | .linkLost => .stop | .frameError => .note
  | .rampOver => .stop | .pressureLimit => .shutdown | .valveFault => .stop | .compressorFault => .note
  | .leakFlow => .stop | .balanceMismatch => .note | .esdInput => .shutdown | .retainLost => .shutdown | .calSwitch => .note

def defaultSeverities : PerKind Severity :=
  { sensorRange := defaultSeverity .sensorRange, bankStale := defaultSeverity .bankStale,
    ambientStale := defaultSeverity .ambientStale, linkLost := defaultSeverity .linkLost,
    frameError := defaultSeverity .frameError, rampOver := defaultSeverity .rampOver,
    pressureLimit := defaultSeverity .pressureLimit, valveFault := defaultSeverity .valveFault,
    compressorFault := defaultSeverity .compressorFault, leakFlow := defaultSeverity .leakFlow,
    balanceMismatch := defaultSeverity .balanceMismatch, esdInput := defaultSeverity .esdInput,
    retainLost := defaultSeverity .retainLost, calSwitch := defaultSeverity .calSwitch }

/-- R181, power-on reset; the ESD latch disarmed and its input as given. -/
def FaultMonitor.reset (esdActive : Bool) : FaultMonitor :=
  { severity := defaultSeverities, firstSevere := none, firstNote := none, nextSevere := .same false, nextNote := .same false,
    counters := List.replicate 4 { sel := none, value := 0 }, mode := .starting, demand := false, esdArmed := false,
    esdActive := esdActive, locked := .same false }

/-- R191: the reply every slot holds after a reset, NOT_READY with reason RESET. No list of the spec holds RESET; its byte 0 is a choice
of the model (assumption 30). -/
def Reply.afterReset : Reply := { status := .notReady, payload := [.byte 0] }

def DispEvents.empty : DispEvents :=
  { stateChanged := false, sessionEnded := false, authReady := false, rampLag := false, locked := false }

def PlantEvents.empty : PlantEvents :=
  { refillGrant := false, refillDone := false, refillSuspended := false, faultRecorded := false, modeChanged := false,
    calRecorded := false }

def SalesEvents.empty : SalesEvents :=
  { saleCommitted := false, authExpired := false, authConsumed := false, revokeDone := false, logLow := false,
    modeChanged := false }

/-- R191, R195, R197; the identity and its mark as given, since they are sticky (R198). -/
def PortUnit.reset (stationId : Nat) (idWritten : Bool) : PortUnit :=
  { slots := .same .afterReset, dispEvents := .same .empty, plantEvents := .empty, salesEvents := .empty,
    attention := .same false, clock := 0, clockSet := false, stationId := stationId, idWritten := idWritten }

/-- R115, R121: a new part; the calibration switch input deasserted (assumption 2). -/
def MeterUnit.newPart : MeterUnit :=
  { factor := .same 10000, metrology := 0, change := none, unaccounted := .same 0, calSwitch := false, window := 0 }

/-- R166, R169: the retained memory of a new part; its marker is not valid. -/
def Retained.newPart : Retained := { marker := false, slots := .same none, release := 0, totalizers := .same 0 }

/-- R151, R152, R156, R161, R170 after a reset, over the array and the retained memory given. -/
def LogController.reset (array : List (Nat × LogRecord)) (op : ArrayOp) (retained : Retained) : LogController :=
  { array := array, view := none, op := op, carried := op != .idle, queue := [], offers := [], reserved := 0, cursor := 0,
    delivered := 0, stream := false, recovering := true, recoveryLeft := 0, retained := retained }

/-- The machine right after the power-on reset of a new part (R1 to R198, the values after reset): STARTING, with the start-up
scan under way. -/
def State.reset : State :=
  { port := .reset 0 false, inv := .reset, unit := .same .reset, settleTime := 1500, ramp := { h70 := .reset, h35 := .reset },
    cold := .reset, lane := .reset, meter := .newPart, auth := .reset, log := .reset [] .idle .newPart,
    fault := .reset false, powered := true, freeCount := 0, pending := [] }

end Sys2Proof.Machine
end

