-- ==== Sys2Proof/Machine/Codes.lean ====
section
/-! DEFINITION. Ranges and fixed values of the part, the codes of named values (R192: a value's position in the list where that
list is first given, counting from 0; fault kinds use their codes), CRC-16 and the byte layouts of records, fault contexts and
reply frames (R159, R160, R175, R192). -/

namespace Sys2Proof.Machine

/-! ### Ranges and fixed values -/

/-- 2^32 - 1: the greatest station clock, totalizer, sequence number and mass (00_scope.md, Units). -/
def maxWord : Nat := 4294967295

/-- A reported pressure is taken within 0 to 9000 (00_scope.md, Units). -/
def takePressure (p : Nat) : Nat := min p 9000

/-- A reported temperature is taken at the nearer end of -500 to 1000 (00_scope.md, Units). -/
def takeTemperature (t : Int) : Int := max (-500) (min t 1000)

/-- A value outside its reportable range. -/
def pressureOut (p : Nat) : Bool := decide (9000 < p)

def temperatureOut (t : Int) : Bool := decide (t < -500) || decide (1000 < t)

/-- The nominal pressure of a hose class (00_scope.md, Hose classes). -/
def nominalPressure : HoseClass → Nat
  | .h70 => 7000
  | .h35 => 3500

/-- The hose limit of a hose class (00_scope.md, Hose classes). -/
def hoseLimit : HoseClass → Nat
  | .h70 => 8750
  | .h35 => 4375

/-- R171: the least severity of each kind. -/
def leastSeverity : FaultKind → Severity
  | .linkLost => .stop | .rampOver => .stop | .pressureLimit => .stop | .valveFault => .stop
  | .esdInput => .shutdown | .retainLost => .shutdown
  | .sensorRange => .note | .bankStale => .note | .ambientStale => .note | .frameError => .note | .compressorFault => .note
  | .leakFlow => .note | .balanceMismatch => .note | .calSwitch => .note

/-! ### Codes of named values -/

/-- A two-valued field, by the order in which the spec first gives its values: yes before no, set before clear, FRESH before
STALE, running before stopped (assumption 3). -/
def flagCode (b : Bool) : Nat := if b then 0 else 1

def hoseClassCode : HoseClass → Nat
  | .h70 => 0 | .h35 => 1

def coldClassCode : ColdClass → Nat
  | .a => 0 | .b => 1 | .c => 2 | .n => 3

def fillKindCode : FillKind → Nat
  | .comm => 0 | .nonComm => 1

def serviceCode : Service → Nat
  | .unconfigured => 0 | .inService => 1 | .isolated => 2 | .fault => 3

def tableStateCode : TableState → Nat
  | .invalid => 0 | .loading => 1 | .valid => 2

/-- The states that R21 lists for a report, AVAILABLE, RUNNING and FAULT, at their positions. No list holds UNREPORTED; its code 3,
after them, is a choice of the model (assumption 30). -/
def compressorCode : CompressorState → Nat
  | .available => 0 | .running => 1 | .fault => 2 | .unreported => 3

/-- R175, byte 9. -/
def phaseCode : Phase → Nat
  | .idle => 0 | .coldWait => 1 | .laneWait => 2 | .switching => 3 | .flowing => 4 | .bankWait => 5 | .closing => 6
  | .commitWait => 7

/-- R159: the code of a termination reason in a sale record. -/
def reasonCode : Reason → Nat
  | .targetSoc => 1 | .targetPressure => 2 | .budgetReached => 3 | .nozzleOff => 4 | .stopRequest => 5 | .linkLost => 6
  | .rampOver => 7 | .pressureLimit => 8 | .tankHot => 9 | .precoolLost => 10 | .noCold => 11 | .noBank => 12
  | .bankTimeout => 13 | .banksExhausted => 14 | .revoked => 15 | .faultStop => 16 | .shutdown => 17 | .resetRecovered => 18

/-- R175, byte 13. -/
def consumerCode : Consumer → Nat
  | .disp d => d.toNat
  | .compressor => 4

/-- R1: a lane holder, none, D0 to D3, compressor. -/
def holderCode : Option Consumer → Nat
  | none => 0
  | some c => consumerCode c + 1

def refillStateCode : RefillState → Nat
  | .none => 0 | .switching => 1 | .running => 2

def endReasonCode : EndReason → Nat
  | .stopReached => 0 | .stopped => 1 | .compressorFault => 2 | .bankOut => 3 | .shutdown => 4 | .yielded => 5

def authKindCode : AuthKind → Nat
  | .single => 0 | .fleetRun => 1

/-- The four scopes at their positions in R144. No list holds NONE; its code 4, after them, is a choice of the model
(assumption 30). -/
def scopeCode : RevokeScope → Nat
  | .all => 0 | .fleet => 1 | .account => 2 | .entry => 3 | .none => 4

def revokeModeCode : RevokeMode → Nat
  | .drain => 0 | .immediate => 1

/-- R175, byte 3. -/
def severityCode : Severity → Nat
  | .note => 0 | .stop => 1 | .shutdown => 2

/-- 00_scope.md, Terms: STARTING, RESTRICTED, RUN, SHUTDOWN. -/
def modeCode : Mode → Nat
  | .starting => 0 | .restricted => 1 | .run => 2 | .shutdown => 3

/-- R171. -/
def faultCode : FaultKind → Nat
  | .sensorRange => 1 | .bankStale => 2 | .ambientStale => 3 | .linkLost => 4 | .frameError => 5 | .rampOver => 6
  | .pressureLimit => 7 | .valveFault => 8 | .compressorFault => 9 | .leakFlow => 10 | .balanceMismatch => 11
  | .esdInput => 12 | .retainLost => 13 | .calSwitch => 14

def faultKinds : List FaultKind :=
  [.sensorRange, .bankStale, .ambientStale, .linkLost, .frameError, .rampOver, .pressureLimit, .valveFault,
   .compressorFault, .leakFlow, .balanceMismatch, .esdInput, .retainLost, .calSwitch]

/-- R194. -/
def statusCode : Status → Nat
  | .ok => 0 | .badFrame => 1 | .wrongPort => 2 | .badValue => 3 | .busy => 4 | .notReady => 5 | .notAllowed => 6
  | .notFound => 7 | .noAuth => 8 | .held => 9 | .locked => 10 | .logFull => 11

def sourceCode : Source → Nat
  | .session _ => 0 | .recovered _ => 1 | .calibration => 2

/-! ### Bytes -/

def be2 (n : Nat) : List Byte := [BitVec.ofNat 8 (n / 256), BitVec.ofNat 8 n]

/-- Most significant byte first (R159, R192). -/
def be4 (n : Nat) : List Byte := be2 (n / 65536) ++ be2 n

def byte1 (n : Nat) : List Byte := [BitVec.ofNat 8 n]

/-- Two's complement of a signed value in n bits. -/
def twos (bits : Nat) (i : Int) : Nat := (i % (2 ^ bits : Nat)).toNat

/-- One bit of the CRC-16 register (R192: generator x^16 + x^12 + x^5 + 1). -/
def crcShift (c : BitVec 16) : BitVec 16 := if c.getMsbD 0 then (c <<< 1) ^^^ 0x1021#16 else c <<< 1

def crcByte (c : BitVec 16) (b : Byte) : BitVec 16 :=
  let x := c ^^^ ((b.setWidth 16) <<< 8)
  crcShift (crcShift (crcShift (crcShift (crcShift (crcShift (crcShift (crcShift x)))))))

/-- The CRC-16 of R192: initial value FFFF, most significant bit first, not inverted. -/
def crc16 (bs : List Byte) : BitVec 16 := bs.foldl crcByte 0xFFFF#16

/-- The two check bytes over bs, most significant first. -/
def checkBytes (bs : List Byte) : List Byte := be2 (crc16 bs).toNat

def withCheck (bs : List Byte) : List Byte := bs ++ checkBytes bs

def zeros (n : Nat) : List Byte := List.replicate n 0#8

/-- One payload value by the encodings of R192. -/
def Val.encode : Val → List Byte
  | .num n => be4 n
  | .int i => be4 (twos 32 i)
  | .byte n => byte1 n
  | .kinds n => be2 n
  | .present b => byte1 (if b then 1 else 0)
  | .raw bs => bs

/-- The reply frame that the slot holds: status, payload length, payload, reply check (R192). -/
def Reply.frame (r : Reply) : List Byte :=
  let body := r.payload.flatMap Val.encode
  withCheck (byte1 (statusCode r.status) ++ be2 body.length ++ body)

def optCode {α : Type} (f : α → Nat) : Option α → Nat
  | none => 0
  | some x => f x

/-- R159, bytes 57 to 86: six entries of five bytes. -/
def bankUseBytes (us : List (Bank × Nat)) : List Byte :=
  let used := (us.take 6).flatMap fun u => byte1 u.1.toNat ++ be4 u.2
  used ++ zeros (30 - used.length)

def bit (b : Bool) (n : Nat) : Nat := if b then n else 0

/-- Bytes 0 to 93 of a sale record (R159). -/
def SaleRecord.body (r : SaleRecord) : List Byte :=
  byte1 1 ++ byte1 r.disp.toNat ++ be2 r.station ++ be4 r.seq ++ be4 r.startTime ++ be4 r.endTime ++ be2 r.authNumber ++
  byte1 r.group ++ byte1 r.line ++ be4 r.account ++ be4 r.price ++ be4 r.limit ++ be4 r.mass ++ be4 r.amount ++ be4 r.k ++
  be4 r.metrology ++ be2 (r.soc.getD 65535) ++ byte1 (optCode hoseClassCode r.hoseClass) ++
  byte1 (optCode fillKindCode r.fillKind) ++ byte1 (optCode coldClassCode r.classAtStart) ++
  byte1 (optCode coldClassCode r.classAtEnd) ++ byte1 (optCode reasonCode r.reason) ++
  byte1 (bit r.timeUnset 1 + bit r.capped 2 + bit r.coldShortfall 4) ++ byte1 r.bankUse.length ++ bankUseBytes r.bankUse ++
  zeros 7

/-- Bytes 0 to 93 of a calibration record (R160). -/
def CalRecord.body (r : CalRecord) : List Byte :=
  byte1 2 ++ byte1 r.disp.toNat ++ be2 r.station ++ be4 r.seq ++ be4 r.time ++ be4 r.oldFactor ++ be4 r.newFactor ++
  be4 r.counter ++ byte1 (bit r.timeUnset 1) ++ zeros 69

/-- The 96 bytes of a record, with its record check in bytes 94 and 95 (R159, R160). -/
def LogRecord.bytes : LogRecord → List Byte
  | .sale r => withCheck r.body
  | .cal r => withCheck r.body

def LogRecord.seq : LogRecord → Nat
  | .sale r => r.seq
  | .cal r => r.seq

/-- R157: the sequence number and the station identity written into a record at its commit start. -/
def LogRecord.stamped (station seq : Nat) : LogRecord → LogRecord
  | .sale r => .sale { r with station := station, seq := seq }
  | .cal r => .cal { r with station := station, seq := seq }

def sampleBytes (x : Sample) : List Byte := be2 x.clock ++ be2 x.pressure ++ be2 (twos 16 x.temperature)

def siteTypeCode : Site → Nat
  | .station => 0 | .disp _ => 1 | .bank _ => 2

def siteNumber : Site → Nat
  | .station => 0 | .disp d => d.toNat | .bank b => b.toNat

/-- The 112 bytes of a captured context (R175). -/
def Context.bytes (c : Context) : List Byte :=
  let tr := (c.trace.take 16).flatMap sampleBytes
  byte1 (faultCode c.kind) ++ byte1 (siteTypeCode c.site) ++ byte1 (siteNumber c.site) ++ byte1 (severityCode c.severity) ++
  be4 c.time ++
  byte1 (bit c.timeUnset 1 + bit c.phase.isSome 2 + bit c.hosePressure.isSome 4 + bit c.bank.isSome 8 +
    bit c.consumer.isSome 16) ++
  byte1 (optCode phaseCode c.phase) ++ be2 (c.hosePressure.getD 0) ++ byte1 (optCode Bank.toNat c.bank) ++
  byte1 (optCode consumerCode c.consumer) ++ byte1 (min c.trace.length 16) ++ zeros 1 ++ tr ++ zeros (96 - tr.length)

/-- A first-fault slot as READ_FAULTS returns it; 112 bytes of 0 where it is empty (R175). -/
def contextBytes : Option Context → List Byte
  | none => zeros 112
  | some c => c.bytes

/-- A set of fault kinds: bit 0 is the kind of code 1 (R192). -/
def kindSetCode (v : PerKind Bool) : Nat :=
  (faultKinds.map fun k => bit (v.get k) (2 ^ (faultCode k - 1))).sum

end Sys2Proof.Machine
end

