-- ==== Sys2Proof/WellFormed.lean ====
section
/-! DEFINITION. Which commands a frame can carry: every value fits the bytes R192 gives it, and the payload fits 160 bytes. What is
no request, or carries a payload that is not in the form stated, is well formed as it is. -/

namespace Sys2Proof

/-- A number is 4 bytes (R192). -/
def numFits (n : Nat) : Bool := decide (n < 4294967296)

/-- A number that may be negative is two's complement in 4 bytes (R192). -/
def intFits (i : Int) : Bool := decide (-2147483648 ≤ i) && decide (i < 2147483648)

/-- A value from a named list is 1 byte (R192). -/
def byteFits (n : Nat) : Bool := decide (n < 256)

def optFits {α : Type} (f : α → Bool) : Option α → Bool
  | none => true
  | some x => f x

/-- R3: with the configured flag no, no further value is carried. -/
def BankConfigArgs.wf (a : BankConfigArgs) : Bool :=
  numFits a.bank && numFits a.volume && numFits a.rated && numFits a.tier && numFits a.refillStart && numFits a.refillStop &&
  (a.configured ||
    (a.volume == 0 && a.rated == 0 && a.tier == 0 && a.serves == 0#8 && a.refillStart == 0 && a.refillStop == 0))

def BankReading.wf (r : BankReading) : Bool := numFits r.bank && numFits r.pressure && intFits r.temperature

/-- A count and up to 13 entries of 12 bytes fit a payload. -/
def readingsWf (rs : List BankReading) : Bool := decide (rs.length ≤ 13) && rs.all BankReading.wf

/-- A row index and up to 39 entries of 4 bytes fit a payload. -/
def TableRowArgs.wf (a : TableRowArgs) : Bool := numFits a.row && decide (a.entries.length ≤ 39) && a.entries.all numFits

def NozzleOnArgs.wf (a : NozzleOnArgs) : Bool :=
  numFits a.hosePressure && optFits numFits a.tankVolume && optFits numFits a.tankPressure && optFits intFits a.tankTemperature

def ReportArgs.wf (a : ReportArgs) : Bool :=
  numFits a.hosePressure && intFits a.hoseTemperature && optFits numFits a.tankPressure && optFits intFits a.tankTemperature

def SetDispenserArgs.wf (a : SetDispenserArgs) : Bool := numFits a.disp && byteFits a.hoseClass && numFits a.interval

/-- R56: 24 cells and six target pressures. -/
def ProfileArgs.wf (a : ProfileArgs) : Bool :=
  byteFits a.hoseClass && numFits a.dpUp && numFits a.dpLow && numFits a.targetSoc && numFits a.nominalMass &&
  decide (a.cells.length = 24) && a.cells.all numFits && decide (a.targets.length = 6) && a.targets.all numFits

def ColdConfigArgs.wf (a : ColdConfigArgs) : Bool :=
  numFits a.capacity && numFits a.loadA && numFits a.loadB && numFits a.loadC && intFits a.limitA && intFits a.limitB &&
  intFits a.limitC

def ChillerArgs.wf (a : ChillerArgs) : Bool := byteFits a.state && optFits numFits a.rate

def LaneSettingsArgs.wf (a : LaneSettingsArgs) : Bool :=
  numFits a.switchTime && numFits a.dpStart && numFits a.dpSwitch && numFits a.yieldTime

def ValveArgs.wf (a : ValveArgs) : Bool := numFits a.bank && byteFits a.consumer

def MeterFactorArgs.wf (a : MeterFactorArgs) : Bool := numFits a.disp && numFits a.factor

def PriceArgs.wf (a : PriceArgs) : Bool := numFits a.line && numFits a.price

def AuthorizeArgs.wf (a : AuthorizeArgs) : Bool :=
  numFits a.disp && byteFits a.kind && numFits a.account && numFits a.group && numFits a.line && numFits a.limit &&
  numFits a.expiry && optFits numFits a.preset && optFits numFits a.vehicles

/-- R144: FLEET, ACCOUNT and ENTRY carry a number, and no other scope does. -/
def RevokeArgs.wf (a : RevokeArgs) : Bool :=
  byteFits a.scope && numFits a.value && byteFits a.mode &&
  (a.scope == 1 || a.scope == 2 || a.scope == 3 || a.value == 0)

def SeverityArgs.wf (a : SeverityArgs) : Bool := byteFits a.kind && byteFits a.level

def CountSelectArgs.wf (a : CountSelectArgs) : Bool := numFits a.counter && byteFits a.kind

def Instr.wf : Instr → Bool
  | .bankConfig _ a => optFits BankConfigArgs.wf a
  | .bankReport _ a => optFits readingsWf a
  | .isolateSet _ _ => true
  | .isolateClear _ _ => true
  | .clearBank _ a => optFits numFits a
  | .tableBegin _ => true
  | .tableRow _ a => optFits TableRowArgs.wf a
  | .tableEnd _ => true
  | .ambientReport _ a => optFits intFits a
  | .compressorReport _ a => optFits byteFits a
  | .readBanks _ => true
  | .nozzleOn _ a => optFits NozzleOnArgs.wf a
  | .report _ a => optFits ReportArgs.wf a
  | .stopFill _ => true
  | .nozzleOff _ => true
  | .readSession _ a => optFits numFits a
  | .setDispenser _ a => optFits SetDispenserArgs.wf a
  | .setSettle _ a => optFits numFits a
  | .holdSet _ _ => true
  | .holdClear _ _ => true
  | .profileLoad _ a => optFits ProfileArgs.wf a
  | .coldConfig _ a => optFits ColdConfigArgs.wf a
  | .coldSet _ a => optFits numFits a
  | .chillerReport _ a => optFits ChillerArgs.wf a
  | .laneSettings _ a => optFits LaneSettingsArgs.wf a
  | .refillStop _ a => optFits numFits a
  | .valveReport _ a => optFits ValveArgs.wf a
  | .calUnlock _ => true
  | .setMeterFactor _ a => optFits MeterFactorArgs.wf a
  | .setPrice _ a => optFits PriceArgs.wf a
  | .clearPrice _ a => optFits numFits a
  | .authorize _ a => optFits AuthorizeArgs.wf a
  | .cancelAuth _ a => optFits numFits a
  | .revoke _ a => optFits RevokeArgs.wf a
  | .readAuth _ a => optFits (optFits numFits) a
  | .exportStart _ a => optFits (optFits numFits) a
  | .exportNext _ => true
  | .release _ a => optFits numFits a
  | .readLogStatus _ => true
  | .setSeverity _ a => optFits SeverityArgs.wf a
  | .clearFaults _ a => optFits byteFits a
  | .countSelect _ a => optFits CountSelectArgs.wf a
  | .readFaults _ => true
  | .armEsd _ => true
  | .restart _ => true
  | .clearLock _ a => optFits numFits a
  | .fetchEvents _ => true
  | .readStatus _ => true
  | .setTime _ a => optFits numFits a
  | .setStationId _ a => optFits numFits a
  | .powerOnReset => true
  | .warmReset => true
  | .meterPulse _ => true
  | .calSwitchChange _ => true
  | .esdInputChange _ => true
  | .emptyFrame _ => true
  | .badFrame _ => true
  | .unknownCommandName _ => true
  | .bankStalenessExpiry _ => true
  | .ambientStalenessExpiry => true
  | .chillerStalenessExpiry => true
  | .supervisionExpiry _ => true
  | .waitTimerExpiry _ => true
  | .settleTimerExpiry _ => true
  | .precoolGraceExpiry _ => true
  | .exceedanceExpiry _ => true
  | .tankDataExpiry _ => true
  | .yieldTimerExpiry _ => true
  | .rechargeStep => true
  | .rampClockTick _ => true
  | .stationClockTick => true
  | .switchCompletion _ => true
  | .commitCompletion => true
  | .eraseCompletion => true
  | .scanCompletion => true
  | .backupSupplyLoss => true
  | .powerLoss => true
  -- an authorization number is 1 to 65535 (R132)
  | .authExpiry n => decide (1 ≤ n) && decide (n ≤ 65535)

end Sys2Proof
end

