-- ==== Sys2Proof/Decode.lean ====
section
/-! DEFINITION. The frames of the six ports (R192, R193): what the bytes of a frame on a port are as a command, and the frame of a
request. The opcode table gives no row any bits, so decodeTableWord answers none. -/

namespace Sys2Proof

open Sys2Proof.Machine (Val)

/-- R192's table gives commands by name; spec/opcode_table.json gives no row a bit. -/
def decodeTableWord (_nbits _w : Nat) : Option Instr := none

/-- The catalogue of commands (after R199). -/
inductive Command
  | bankConfig | bankReport | isolateSet | isolateClear | clearBank | tableBegin | tableRow | tableEnd
  | ambientReport | compressorReport | readBanks | nozzleOn | report | stopFill | nozzleOff | readSession
  | setDispenser | setSettle | holdSet | holdClear | profileLoad | coldConfig | coldSet | chillerReport
  | laneSettings | refillStop | valveReport | calUnlock | setMeterFactor | setPrice | clearPrice | authorize
  | cancelAuth | revoke | readAuth | exportStart | exportNext | release | readLogStatus | setSeverity
  | clearFaults | countSelect | readFaults | armEsd | restart | clearLock | fetchEvents | readStatus
  | setTime | setStationId
  deriving DecidableEq, Repr

namespace Command

def all : List Command :=
  [.bankConfig, .bankReport, .isolateSet, .isolateClear, .clearBank, .tableBegin, .tableRow, .tableEnd,
   .ambientReport, .compressorReport, .readBanks, .nozzleOn, .report, .stopFill, .nozzleOff, .readSession,
   .setDispenser, .setSettle, .holdSet, .holdClear, .profileLoad, .coldConfig, .coldSet, .chillerReport,
   .laneSettings, .refillStop, .valveReport, .calUnlock, .setMeterFactor, .setPrice, .clearPrice, .authorize,
   .cancelAuth, .revoke, .readAuth, .exportStart, .exportNext, .release, .readLogStatus, .setSeverity,
   .clearFaults, .countSelect, .readFaults, .armEsd, .restart, .clearLock, .fetchEvents, .readStatus,
   .setTime, .setStationId]

/-- The command's name, one character per byte (R192). -/
def chars : Command → List Char
  | .bankConfig => ['B', 'A', 'N', 'K', '_', 'C', 'O', 'N', 'F', 'I', 'G']
  | .bankReport => ['B', 'A', 'N', 'K', '_', 'R', 'E', 'P', 'O', 'R', 'T']
  | .isolateSet => ['I', 'S', 'O', 'L', 'A', 'T', 'E', '_', 'S', 'E', 'T']
  | .isolateClear => ['I', 'S', 'O', 'L', 'A', 'T', 'E', '_', 'C', 'L', 'E', 'A', 'R']
  | .clearBank => ['C', 'L', 'E', 'A', 'R', '_', 'B', 'A', 'N', 'K']
  | .tableBegin => ['T', 'A', 'B', 'L', 'E', '_', 'B', 'E', 'G', 'I', 'N']
  | .tableRow => ['T', 'A', 'B', 'L', 'E', '_', 'R', 'O', 'W']
  | .tableEnd => ['T', 'A', 'B', 'L', 'E', '_', 'E', 'N', 'D']
  | .ambientReport => ['A', 'M', 'B', 'I', 'E', 'N', 'T', '_', 'R', 'E', 'P', 'O', 'R', 'T']
  | .compressorReport => ['C', 'O', 'M', 'P', 'R', 'E', 'S', 'S', 'O', 'R', '_', 'R', 'E', 'P', 'O', 'R', 'T']
  | .readBanks => ['R', 'E', 'A', 'D', '_', 'B', 'A', 'N', 'K', 'S']
  | .nozzleOn => ['N', 'O', 'Z', 'Z', 'L', 'E', '_', 'O', 'N']
  | .report => ['R', 'E', 'P', 'O', 'R', 'T']
  | .stopFill => ['S', 'T', 'O', 'P', '_', 'F', 'I', 'L', 'L']
  | .nozzleOff => ['N', 'O', 'Z', 'Z', 'L', 'E', '_', 'O', 'F', 'F']
  | .readSession => ['R', 'E', 'A', 'D', '_', 'S', 'E', 'S', 'S', 'I', 'O', 'N']
  | .setDispenser => ['S', 'E', 'T', '_', 'D', 'I', 'S', 'P', 'E', 'N', 'S', 'E', 'R']
  | .setSettle => ['S', 'E', 'T', '_', 'S', 'E', 'T', 'T', 'L', 'E']
  | .holdSet => ['H', 'O', 'L', 'D', '_', 'S', 'E', 'T']
  | .holdClear => ['H', 'O', 'L', 'D', '_', 'C', 'L', 'E', 'A', 'R']
  | .profileLoad => ['P', 'R', 'O', 'F', 'I', 'L', 'E', '_', 'L', 'O', 'A', 'D']
  | .coldConfig => ['C', 'O', 'L', 'D', '_', 'C', 'O', 'N', 'F', 'I', 'G']
  | .coldSet => ['C', 'O', 'L', 'D', '_', 'S', 'E', 'T']
  | .chillerReport => ['C', 'H', 'I', 'L', 'L', 'E', 'R', '_', 'R', 'E', 'P', 'O', 'R', 'T']
  | .laneSettings => ['L', 'A', 'N', 'E', '_', 'S', 'E', 'T', 'T', 'I', 'N', 'G', 'S']
  | .refillStop => ['R', 'E', 'F', 'I', 'L', 'L', '_', 'S', 'T', 'O', 'P']
  | .valveReport => ['V', 'A', 'L', 'V', 'E', '_', 'R', 'E', 'P', 'O', 'R', 'T']
  | .calUnlock => ['C', 'A', 'L', '_', 'U', 'N', 'L', 'O', 'C', 'K']
  | .setMeterFactor => ['S', 'E', 'T', '_', 'M', 'E', 'T', 'E', 'R', '_', 'F', 'A', 'C', 'T', 'O', 'R']
  | .setPrice => ['S', 'E', 'T', '_', 'P', 'R', 'I', 'C', 'E']
  | .clearPrice => ['C', 'L', 'E', 'A', 'R', '_', 'P', 'R', 'I', 'C', 'E']
  | .authorize => ['A', 'U', 'T', 'H', 'O', 'R', 'I', 'Z', 'E']
  | .cancelAuth => ['C', 'A', 'N', 'C', 'E', 'L', '_', 'A', 'U', 'T', 'H']
  | .revoke => ['R', 'E', 'V', 'O', 'K', 'E']
  | .readAuth => ['R', 'E', 'A', 'D', '_', 'A', 'U', 'T', 'H']
  | .exportStart => ['E', 'X', 'P', 'O', 'R', 'T', '_', 'S', 'T', 'A', 'R', 'T']
  | .exportNext => ['E', 'X', 'P', 'O', 'R', 'T', '_', 'N', 'E', 'X', 'T']
  | .release => ['R', 'E', 'L', 'E', 'A', 'S', 'E']
  | .readLogStatus => ['R', 'E', 'A', 'D', '_', 'L', 'O', 'G', '_', 'S', 'T', 'A', 'T', 'U', 'S']
  | .setSeverity => ['S', 'E', 'T', '_', 'S', 'E', 'V', 'E', 'R', 'I', 'T', 'Y']
  | .clearFaults => ['C', 'L', 'E', 'A', 'R', '_', 'F', 'A', 'U', 'L', 'T', 'S']
  | .countSelect => ['C', 'O', 'U', 'N', 'T', '_', 'S', 'E', 'L', 'E', 'C', 'T']
  | .readFaults => ['R', 'E', 'A', 'D', '_', 'F', 'A', 'U', 'L', 'T', 'S']
  | .armEsd => ['A', 'R', 'M', '_', 'E', 'S', 'D']
  | .restart => ['R', 'E', 'S', 'T', 'A', 'R', 'T']
  | .clearLock => ['C', 'L', 'E', 'A', 'R', '_', 'L', 'O', 'C', 'K']
  | .fetchEvents => ['F', 'E', 'T', 'C', 'H', '_', 'E', 'V', 'E', 'N', 'T', 'S']
  | .readStatus => ['R', 'E', 'A', 'D', '_', 'S', 'T', 'A', 'T', 'U', 'S']
  | .setTime => ['S', 'E', 'T', '_', 'T', 'I', 'M', 'E']
  | .setStationId => ['S', 'E', 'T', '_', 'S', 'T', 'A', 'T', 'I', 'O', 'N', '_', 'I', 'D']

def name (c : Command) : List Byte := c.chars.map fun x => BitVec.ofNat 8 x.toNat

/-- The command with a name, if the catalogue has one (R193, third check). -/
def ofName? (n : List Byte) : Option Command := all.find? fun c => c.name == n

end Command

/-! ### Values of a payload (R192) -/

/-- What reads one value from the front of a payload. -/
abbrev Reader (α : Type) := List Byte → Option (α × List Byte)

namespace Reader
variable {α β : Type}

def byte : Reader Nat
  | [] => none
  | b :: bs => some (b.toNat, bs)

def set : Reader Byte
  | [] => none
  | b :: bs => some (b, bs)

/-- Four bytes, most significant first. -/
def num : Reader Nat
  | a :: b :: c :: d :: bs => some (((a.toNat * 256 + b.toNat) * 256 + c.toNat) * 256 + d.toNat, bs)
  | _ => none

/-- The value of 32 bits in two's complement. -/
def signed (n : Nat) : Int := if n < 2147483648 then n else (n : Int) - 4294967296

def map (f : α → β) (r : Reader α) : Reader β := fun bs => (r bs).map fun x => (f x.1, x.2)

def int : Reader Int := map signed num

def andThen (r : Reader α) (f : α → Reader β) : Reader β := fun bs =>
  match r bs with
  | none => none
  | some (x, rest) => f x rest

def give (x : α) : Reader α := fun bs => some (x, bs)

def fail : Reader α := fun _ => none

/-- R192: an optional value behind 1 for present or 0 for absent. -/
def optional (r : Reader α) : Reader (Option α) :=
  andThen byte fun n =>
    match n with
    | 0 => give none
    | 1 => map some r
    | _ => fail

/-- A value that ends the payload, or no bytes. -/
def ifAny (r : Reader α) : Reader (Option α) := fun bs =>
  match bs with
  | [] => some (none, [])
  | b :: bs => map some r (b :: bs)

def count (r : Reader α) : Nat → Reader (List α)
  | 0 => give []
  | n + 1 => andThen r fun x => map (x :: ·) (count r n)

/-- R192: a list behind its count. -/
def list (r : Reader α) : Reader (List α) := andThen byte (count r)

/-- Numbers up to the payload's end. -/
def numbers : Reader (List Nat) := fun bs => count num (bs.length / 4) bs

/-- The whole payload: nothing may be left over. -/
def whole (r : Reader α) (bs : List Byte) : Option α :=
  match r bs with
  | some (x, []) => some x
  | _ => none

/-- What stands after the value is not looked at. -/
def front (r : Reader α) (bs : List Byte) : Option α := (r bs).map (·.1)

end Reader

open Reader in
/-- A flag carried as yes or no: 0 for yes, 1 for no (assumption 3). -/
def readFlag : Reader Bool :=
  andThen byte fun n =>
    match n with
    | 0 => give true
    | 1 => give false
    | _ => fail

open Reader in
def readDescription (bank : Nat) : Reader BankConfigArgs :=
  andThen num fun volume => andThen num fun rated => andThen num fun tier => andThen set fun serves =>
  andThen num fun start => andThen num fun stop =>
  give { bank := bank, configured := true, volume := volume, rated := rated, tier := tier, serves := serves,
         refillStart := start, refillStop := stop }

/-- R3: with the configured flag no, the values carried are not examined. -/
def unconfigureArgs (bank : Nat) : BankConfigArgs :=
  { bank := bank, configured := false, volume := 0, rated := 0, tier := 0, serves := 0#8, refillStart := 0, refillStop := 0 }

open Reader in
def readBankConfig (bs : List Byte) : Option BankConfigArgs :=
  match andThen num (fun bank => map (bank, ·) readFlag) bs with
  | some ((bank, true), rest) => whole (readDescription bank) rest
  | some ((bank, false), _) => some (unconfigureArgs bank)
  | none => none

open Reader in
def readReading : Reader BankReading :=
  andThen num fun bank => andThen num fun pressure => map (fun t => ⟨bank, pressure, t⟩) int

open Reader in
def readNozzleOn : Reader NozzleOnArgs :=
  andThen num fun hose => andThen (optional num) fun volume => andThen (optional num) fun pressure =>
  map (fun t => ⟨hose, volume, pressure, t⟩) (optional int)

open Reader in
def readReport : Reader ReportArgs :=
  andThen num fun hose => andThen int fun temperature => andThen (optional num) fun pressure =>
  map (fun t => ⟨hose, temperature, pressure, t⟩) (optional int)

open Reader in
def readProfile : Reader ProfileArgs :=
  andThen byte fun cls => andThen num fun up => andThen num fun low => andThen num fun soc => andThen num fun mass =>
  andThen (count num 24) fun cells => map (fun t => ⟨cls, up, low, soc, mass, cells, t⟩) (count num 6)

open Reader in
def readColdConfig : Reader ColdConfigArgs :=
  andThen num fun capacity => andThen num fun a => andThen num fun b => andThen num fun c =>
  andThen int fun la => andThen int fun lb => map (fun lc => ⟨capacity, a, b, c, la, lb, lc⟩) int

open Reader in
def readLaneSettings : Reader LaneSettingsArgs :=
  andThen num fun t => andThen num fun start => andThen num fun switch => map (fun y => ⟨t, start, switch, y⟩) num

open Reader in
/-- R133; the dispenser is carried as a number (assumption 29). -/
def readAuthorize : Reader AuthorizeArgs :=
  andThen num fun d => andThen byte fun kind => andThen num fun account => andThen num fun group =>
  andThen num fun line => andThen num fun limit => andThen num fun expiry => andThen (optional num) fun preset =>
  map (fun v => ⟨d, kind, account, group, line, limit, expiry, preset, v⟩) (ifAny num)

/-- R144: FLEET, ACCOUNT and ENTRY carry a number. -/
def scopeCarriesNumber (scope : Nat) : Bool := scope == 1 || scope == 2 || scope == 3

open Reader in
def readRevoke : Reader RevokeArgs :=
  andThen byte fun scope =>
  andThen (if scopeCarriesNumber scope then num else give 0) fun value => map (fun m => ⟨scope, value, m⟩) byte

open Reader in
/-- A command with its payload, on a port, as a command of the part. A payload that is not of the form stated is none; a command
that carries no payload is read without one. -/
def Command.read (c : Command) (p : Port) (bs : List Byte) : Instr :=
  match c with
  | .bankConfig => .bankConfig p (readBankConfig bs)
  | .bankReport => .bankReport p (whole (list readReading) bs)
  | .isolateSet => .isolateSet p (whole set bs)
  | .isolateClear => .isolateClear p (whole set bs)
  | .clearBank => .clearBank p (whole num bs)
  | .tableBegin => .tableBegin p
  | .tableRow => .tableRow p (whole (andThen num fun r => map (fun es => ⟨r, es⟩) numbers) bs)
  | .tableEnd => .tableEnd p
  | .ambientReport => .ambientReport p (whole int bs)
  | .compressorReport => .compressorReport p (whole byte bs)
  | .readBanks => .readBanks p
  | .nozzleOn => .nozzleOn p (whole readNozzleOn bs)
  | .report => .report p (whole readReport bs)
  | .stopFill => .stopFill p
  | .nozzleOff => .nozzleOff p
  | .readSession => .readSession p (match p with
      | .disp _ => none
      | .plant => whole num bs
      | .sales => whole num bs)
  | .setDispenser => .setDispenser p (whole (andThen num fun d => andThen byte fun h => map (fun i => ⟨d, h, i⟩) num) bs)
  | .setSettle => .setSettle p (whole num bs)
  | .holdSet => .holdSet p (whole set bs)
  | .holdClear => .holdClear p (whole set bs)
  | .profileLoad => .profileLoad p (whole readProfile bs)
  | .coldConfig => .coldConfig p (whole readColdConfig bs)
  | .coldSet => .coldSet p (whole num bs)
  | .chillerReport => .chillerReport p (whole (andThen byte fun x => map (fun r => ⟨x, r⟩) (ifAny num)) bs)
  | .laneSettings => .laneSettings p (whole readLaneSettings bs)
  | .refillStop => .refillStop p (whole num bs)
  | .valveReport => .valveReport p (whole (andThen num fun b => map (fun c => ⟨b, c⟩) byte) bs)
  | .calUnlock => .calUnlock p
  | .setMeterFactor => .setMeterFactor p (whole (andThen num fun d => map (fun k => ⟨d, k⟩) num) bs)
  | .setPrice => .setPrice p (whole (andThen num fun l => map (fun x => ⟨l, x⟩) num) bs)
  | .clearPrice => .clearPrice p (whole num bs)
  | .authorize => .authorize p (whole readAuthorize bs)
  | .cancelAuth => .cancelAuth p (whole num bs)
  | .revoke => .revoke p (whole readRevoke bs)
  | .readAuth => .readAuth p (whole (ifAny num) bs)
  | .exportStart => .exportStart p (whole (optional num) bs)
  | .exportNext => .exportNext p
  | .release => .release p (whole num bs)
  | .readLogStatus => .readLogStatus p
  | .setSeverity => .setSeverity p (whole (andThen byte fun k => map (fun l => ⟨k, l⟩) byte) bs)
  | .clearFaults => .clearFaults p (whole byte bs)
  | .countSelect => .countSelect p (whole (andThen num fun n => map (fun k => ⟨n, k⟩) byte) bs)
  | .readFaults => .readFaults p
  | .armEsd => .armEsd p
  | .restart => .restart p
  | .clearLock => .clearLock p (whole num bs)
  | .fetchEvents => .fetchEvents p
  | .readStatus => .readStatus p
  | .setTime => .setTime p (whole num bs)
  | .setStationId => .setStationId p (whole num bs)

/-! ### A frame's end (R193) -/

/-- R192: the CRC-16 over the bytes before the check agrees with the two bytes of the check. -/
def checkHolds (body check : List Byte) : Bool := Machine.checkBytes body == check

/-- R193: the bytes taken in by a frame on a port, and whether the frame ended in the middle of a byte, as a command. -/
def decodeFrame (p : Port) (bytes : List Byte) (midByte : Bool) : Instr :=
  match bytes with
  | [] => .emptyFrame p
  | b :: rest =>
    let n := b.toNat
    if n = 0 then .emptyFrame p
    else
      match rest.drop n with
      | [] => .badFrame p
      | l :: tail =>
        let len := l.toNat
        let body := bytes.take (n + 2 + len)
        if n > 24 ∨ len > 160 ∨ midByte ∨ tail.length < len + 2 ∨ !checkHolds body ((tail.drop len).take 2) then .badFrame p
        else
          match Command.ofName? (rest.take n) with
          | none => .unknownCommandName p
          | some c => c.read p (tail.take len)

/-! ### The frame of a request (R192) -/

/-- A request as its port, its command and the values of its payload; none for what is no request, and for a payload that is not
in the form stated. -/
structure Framed where
  port : Port
  command : Command
  vals : List Val
  deriving DecidableEq, Repr

def optVal {α : Type} (f : α → Val) : Option α → List Val
  | none => [.present false]
  | some x => [.present true, f x]

def flagByte (b : Bool) : Val := .byte (if b then 0 else 1)

def bankConfigVals (a : BankConfigArgs) : List Val :=
  if a.configured then
    [.num a.bank, flagByte true, .num a.volume, .num a.rated, .num a.tier, .raw [a.serves], .num a.refillStart,
     .num a.refillStop]
  else [.num a.bank, flagByte false]

def revokeVals (a : RevokeArgs) : List Val :=
  [.byte a.scope] ++ (if scopeCarriesNumber a.scope then [.num a.value] else []) ++ [.byte a.mode]

def Instr.framed : Instr → Option Framed
  | .bankConfig p (some a) => some ⟨p, .bankConfig, bankConfigVals a⟩
  | .bankConfig _ none => none
  | .bankReport p (some a) => some ⟨p, .bankReport, .byte a.length :: a.flatMap fun r => [.num r.bank, .num r.pressure, .int r.temperature]⟩
  | .bankReport _ none => none
  | .isolateSet p (some a) => some ⟨p, .isolateSet, [.raw [a]]⟩
  | .isolateSet _ none => none
  | .isolateClear p (some a) => some ⟨p, .isolateClear, [.raw [a]]⟩
  | .isolateClear _ none => none
  | .clearBank p (some a) => some ⟨p, .clearBank, [.num a]⟩
  | .clearBank _ none => none
  | .tableBegin p => some ⟨p, .tableBegin, []⟩
  | .tableRow p (some a) => some ⟨p, .tableRow, .num a.row :: a.entries.map .num⟩
  | .tableRow _ none => none
  | .tableEnd p => some ⟨p, .tableEnd, []⟩
  | .ambientReport p (some a) => some ⟨p, .ambientReport, [.int a]⟩
  | .ambientReport _ none => none
  | .compressorReport p (some a) => some ⟨p, .compressorReport, [.byte a]⟩
  | .compressorReport _ none => none
  | .readBanks p => some ⟨p, .readBanks, []⟩
  | .nozzleOn p (some a) => some ⟨p, .nozzleOn, .num a.hosePressure :: (optVal .num a.tankVolume ++ optVal .num a.tankPressure ++ optVal .int a.tankTemperature)⟩
  | .nozzleOn _ none => none
  | .report p (some a) => some ⟨p, .report, [.num a.hosePressure, .int a.hoseTemperature] ++ optVal .num a.tankPressure ++ optVal .int a.tankTemperature⟩
  | .report _ none => none
  | .stopFill p => some ⟨p, .stopFill, []⟩
  | .nozzleOff p => some ⟨p, .nozzleOff, []⟩
  | .readSession (.disp d) none => some ⟨.disp d, .readSession, []⟩
  | .readSession (.disp _) (some _) => none
  | .readSession p (some a) => some ⟨p, .readSession, [.num a]⟩
  | .readSession _ none => none
  | .setDispenser p (some a) => some ⟨p, .setDispenser, [.num a.disp, .byte a.hoseClass, .num a.interval]⟩
  | .setDispenser _ none => none
  | .setSettle p (some a) => some ⟨p, .setSettle, [.num a]⟩
  | .setSettle _ none => none
  | .holdSet p (some a) => some ⟨p, .holdSet, [.raw [a]]⟩
  | .holdSet _ none => none
  | .holdClear p (some a) => some ⟨p, .holdClear, [.raw [a]]⟩
  | .holdClear _ none => none
  | .profileLoad p (some a) => some ⟨p, .profileLoad, [.byte a.hoseClass, .num a.dpUp, .num a.dpLow, .num a.targetSoc, .num a.nominalMass] ++ a.cells.map .num ++
      a.targets.map .num⟩
  | .profileLoad _ none => none
  | .coldConfig p (some a) => some ⟨p, .coldConfig, [.num a.capacity, .num a.loadA, .num a.loadB, .num a.loadC, .int a.limitA, .int a.limitB, .int a.limitC]⟩
  | .coldConfig _ none => none
  | .coldSet p (some a) => some ⟨p, .coldSet, [.num a]⟩
  | .coldSet _ none => none
  | .chillerReport p (some a) => some ⟨p, .chillerReport, .byte a.state :: a.rate.toList.map .num⟩
  | .chillerReport _ none => none
  | .laneSettings p (some a) => some ⟨p, .laneSettings, [.num a.switchTime, .num a.dpStart, .num a.dpSwitch, .num a.yieldTime]⟩
  | .laneSettings _ none => none
  | .refillStop p (some a) => some ⟨p, .refillStop, [.num a]⟩
  | .refillStop _ none => none
  | .valveReport p (some a) => some ⟨p, .valveReport, [.num a.bank, .byte a.consumer]⟩
  | .valveReport _ none => none
  | .calUnlock p => some ⟨p, .calUnlock, []⟩
  | .setMeterFactor p (some a) => some ⟨p, .setMeterFactor, [.num a.disp, .num a.factor]⟩
  | .setMeterFactor _ none => none
  | .setPrice p (some a) => some ⟨p, .setPrice, [.num a.line, .num a.price]⟩
  | .setPrice _ none => none
  | .clearPrice p (some a) => some ⟨p, .clearPrice, [.num a]⟩
  | .clearPrice _ none => none
  | .authorize p (some a) => some ⟨p, .authorize, [.num a.disp, .byte a.kind, .num a.account, .num a.group, .num a.line, .num a.limit, .num a.expiry] ++
      optVal .num a.preset ++ a.vehicles.toList.map .num⟩
  | .authorize _ none => none
  | .cancelAuth p (some a) => some ⟨p, .cancelAuth, [.num a]⟩
  | .cancelAuth _ none => none
  | .revoke p (some a) => some ⟨p, .revoke, revokeVals a⟩
  | .revoke _ none => none
  | .readAuth p (some a) => some ⟨p, .readAuth, a.toList.map .num⟩
  | .readAuth _ none => none
  | .exportStart p (some a) => some ⟨p, .exportStart, optVal .num a⟩
  | .exportStart _ none => none
  | .exportNext p => some ⟨p, .exportNext, []⟩
  | .release p (some a) => some ⟨p, .release, [.num a]⟩
  | .release _ none => none
  | .readLogStatus p => some ⟨p, .readLogStatus, []⟩
  | .setSeverity p (some a) => some ⟨p, .setSeverity, [.byte a.kind, .byte a.level]⟩
  | .setSeverity _ none => none
  | .clearFaults p (some a) => some ⟨p, .clearFaults, [.byte a]⟩
  | .clearFaults _ none => none
  | .countSelect p (some a) => some ⟨p, .countSelect, [.num a.counter, .byte a.kind]⟩
  | .countSelect _ none => none
  | .readFaults p => some ⟨p, .readFaults, []⟩
  | .armEsd p => some ⟨p, .armEsd, []⟩
  | .restart p => some ⟨p, .restart, []⟩
  | .clearLock p (some a) => some ⟨p, .clearLock, [.num a]⟩
  | .clearLock _ none => none
  | .fetchEvents p => some ⟨p, .fetchEvents, []⟩
  | .readStatus p => some ⟨p, .readStatus, []⟩
  | .setTime p (some a) => some ⟨p, .setTime, [.num a]⟩
  | .setTime _ none => none
  | .setStationId p (some a) => some ⟨p, .setStationId, [.num a]⟩
  | .setStationId _ none => none
  | .powerOnReset => none
  | .warmReset => none
  | .meterPulse _ => none
  | .calSwitchChange _ => none
  | .esdInputChange _ => none
  | .emptyFrame _ => none
  | .badFrame _ => none
  | .unknownCommandName _ => none
  | .bankStalenessExpiry _ => none
  | .ambientStalenessExpiry => none
  | .chillerStalenessExpiry => none
  | .supervisionExpiry _ => none
  | .waitTimerExpiry _ => none
  | .settleTimerExpiry _ => none
  | .precoolGraceExpiry _ => none
  | .exceedanceExpiry _ => none
  | .tankDataExpiry _ => none
  | .yieldTimerExpiry _ => none
  | .authExpiry _ => none
  | .rechargeStep => none
  | .rampClockTick _ => none
  | .stationClockTick => none
  | .switchCompletion _ => none
  | .commitCompletion => none
  | .eraseCompletion => none
  | .scanCompletion => none
  | .backupSupplyLoss => none
  | .powerLoss => none

/-- R192: the bytes of a request frame. -/
def Framed.bytes (f : Framed) : List Byte :=
  let payload := f.vals.flatMap Val.encode
  Machine.withCheck
    (BitVec.ofNat 8 f.command.name.length :: f.command.name ++ BitVec.ofNat 8 payload.length :: payload)

/-- R192: the frame of a request. -/
def encodeFrame (i : Instr) : Option (List Byte) := i.framed.map Framed.bytes

end Sys2Proof
end

