-- ==== Sys2Proof/Machine/Operands.lean ====
section
/-! DEFINITION. The operand forms: carried bytes and numbers turned into the banks, dispensers, classes, kinds and sets they name,
or none where they name nothing. -/

namespace Sys2Proof.Machine

def hoseClassOf : Nat → Option HoseClass
  | 0 => some .h70 | 1 => some .h35 | _ => none

/-- R21: AVAILABLE, RUNNING, FAULT. -/
def compressorStateOf : Nat → Option CompressorState
  | 0 => some .available | 1 => some .running | 2 => some .fault | _ => none

/-- R105: D0 to D3 or the compressor. -/
def consumerOf (n : Nat) : Option Consumer :=
  if n = 4 then some .compressor else (Disp.ofNat? n).map .disp

/-- R80: RUNNING or STOPPED; true for RUNNING. -/
def chillerStateOf : Nat → Option Bool
  | 0 => some true | 1 => some false | _ => none

def authKindOf : Nat → Option AuthKind
  | 0 => some .single | 1 => some .fleetRun | _ => none

def revokeModeOf : Nat → Option RevokeMode
  | 0 => some .drain | 1 => some .immediate | _ => none

def severityOf : Nat → Option Severity
  | 0 => some .note | 1 => some .stop | 2 => some .shutdown | _ => none

/-- R171: a fault kind by its code. -/
def faultKindOf (n : Nat) : Option FaultKind := faultKinds.find? (fun k => faultCode k == n)

/-- R179: a fault kind or NONE; 0 is NONE (assumption 3). -/
def counterSelOf (n : Nat) : Option (Option FaultKind) :=
  if n = 0 then some none else (faultKindOf n).map some

/-- R192: a set of banks, bit n for Bn; none where it names a bank outside B0 to B5 (R7, R8). -/
def bankSetOf (m : Byte) : Option (List Bank) :=
  if m.getLsbD 6 || m.getLsbD 7 then none else some (Bank.all.filter fun b => m.getLsbD b.toNat)

/-- R192: a set of dispensers, bit n for Dn; none where it names one outside D0 to D3 (R51, R52). -/
def dispSetOf (m : Byte) : Option (List Disp) :=
  if m.getLsbD 4 || m.getLsbD 5 || m.getLsbD 6 || m.getLsbD 7 then none else some (Disp.all.filter fun d => m.getLsbD d.toNat)

/-- A set of banks as its byte (R192). -/
def bankSetCode (v : PerBank Bool) : Nat := (Bank.all.map fun b => bit (v.get b) (2 ^ b.toNat)).sum

/-- A set of dispensers as its byte (R192). -/
def dispSetCode (v : PerDisp Bool) : Nat := (Disp.all.map fun d => bit (v.get d) (2 ^ d.toNat)).sum

end Sys2Proof.Machine
end

