-- ==== Sys2Proof/Machine/Ops.lean ====
section
/-! DEFINITION. The named reads and updates of the state that every other file builds on, and the record array's cells. -/

namespace Sys2Proof.Machine

/-! ### Reads -/

def State.sess (s : State) (d : Disp) : Session := (s.unit.get d).sess

def State.bank (s : State) (b : Bank) : BankEntry := s.inv.banks.get b

def State.profile (s : State) : HoseClass → Profile
  | .h70 => s.ramp.h70
  | .h35 => s.ramp.h35

/-- The states before CLOSING, in which a termination ends the session (R43). -/
def Phase.active : Phase → Bool
  | .coldWait | .laneWait | .switching | .flowing | .bankWait => true
  | .idle | .closing | .commitWait => false

/-- Whether every Session Unit is IDLE (R12, R122). -/
def State.allIdle (s : State) : Bool := Disp.all.all fun d => (s.sess d).phase == .idle

/-! ### Updates of one block -/

def State.modUnit (s : State) (d : Disp) (f : SessionUnit → SessionUnit) : State :=
  { s with unit := s.unit.set d (f (s.unit.get d)) }

def State.modSess (s : State) (d : Disp) (f : Session → Session) : State :=
  s.modUnit d fun u => { u with sess := f u.sess }

def State.modInv (s : State) (f : Inventory → Inventory) : State := { s with inv := f s.inv }

def State.modBank (s : State) (b : Bank) (f : BankEntry → BankEntry) : State :=
  s.modInv fun i => { i with banks := i.banks.set b (f (i.banks.get b)) }

def State.modCold (s : State) (f : ColdReserve → ColdReserve) : State := { s with cold := f s.cold }

def State.modLane (s : State) (f : LaneArbiter → LaneArbiter) : State := { s with lane := f s.lane }

def State.modMeter (s : State) (f : MeterUnit → MeterUnit) : State := { s with meter := f s.meter }

def State.modAuth (s : State) (f : AuthTable → AuthTable) : State := { s with auth := f s.auth }

def State.modLog (s : State) (f : LogController → LogController) : State := { s with log := f s.log }

def State.modFault (s : State) (f : FaultMonitor → FaultMonitor) : State := { s with fault := f s.fault }

def State.modPort (s : State) (f : PortUnit → PortUnit) : State := { s with port := f s.port }

def setValve (b : Bank) (c : Consumer) (isOpen : Bool) (s : State) : State :=
  s.modLane fun l => { l with valves := l.valves.set b ((l.valves.get b).set c isOpen) }

/-! ### The record array (R151): committed slots with their records, slots strictly rising -/

/-- The record in a slot; none where the slot is ERASED. -/
def Memory.read : List (Nat × LogRecord) → Nat → Option LogRecord
  | [], _ => none
  | c :: m, n => if c.1 = n then some c.2 else Memory.read m n

/-- The slot becomes COMMITTED with this record (R158). -/
def Memory.write : List (Nat × LogRecord) → Nat → LogRecord → List (Nat × LogRecord)
  | [], n, r => [(n, r)]
  | c :: m, n, r => if n < c.1 then (n, r) :: c :: m else if n = c.1 then (n, r) :: m else c :: Memory.write m n r

/-- The 32 slots of a block become ERASED (R153). -/
def Memory.eraseBlock (m : List (Nat × LogRecord)) (block : Nat) : List (Nat × LogRecord) :=
  m.filter fun c => c.1 / 32 != block

/-- The canonical form: slots strictly rising, each below 2048. -/
def Memory.wf : List (Nat × LogRecord) → Bool
  | [] => true
  | [c] => decide (c.1 < 2048)
  | c :: c' :: m => decide (c.1 < c'.1) && Memory.wf (c' :: m)

/-- The slot in which the record with a sequence number lies (R151). -/
def slotOf (seq : Nat) : Nat := (seq - 1) % 2048

end Sys2Proof.Machine
end

