-- ==== Sys2Proof/Machine/Flags.lean ====
section
/-! DEFINITION. Event sets, attention lines, the station mode's events, and the state changes of a session (R28, R182, R195). -/

namespace Sys2Proof.Machine

def DispEvents.any (v : DispEvents) : Bool := v.stateChanged || v.sessionEnded || v.authReady || v.rampLag || v.locked

def PlantEvents.any (v : PlantEvents) : Bool :=
  v.refillGrant || v.refillDone || v.refillSuspended || v.faultRecorded || v.modeChanged || v.calRecorded

def SalesEvents.any (v : SalesEvents) : Bool :=
  v.saleCommitted || v.authExpired || v.authConsumed || v.revokeDone || v.logLow || v.modeChanged

def DispEvents.add (v : DispEvents) : DispEvent → DispEvents
  | .stateChanged => { v with stateChanged := true }
  | .sessionEnded => { v with sessionEnded := true }
  | .authReady => { v with authReady := true }
  | .rampLag => { v with rampLag := true }
  | .locked => { v with locked := true }

def PlantEvents.add (v : PlantEvents) : PlantEvent → PlantEvents
  | .refillGrant => { v with refillGrant := true }
  | .refillDone => { v with refillDone := true }
  | .refillSuspended => { v with refillSuspended := true }
  | .faultRecorded => { v with faultRecorded := true }
  | .modeChanged => { v with modeChanged := true }
  | .calRecorded => { v with calRecorded := true }

def SalesEvents.add (v : SalesEvents) : SalesEvent → SalesEvents
  | .saleCommitted => { v with saleCommitted := true }
  | .authExpired => { v with authExpired := true }
  | .authConsumed => { v with authConsumed := true }
  | .revokeDone => { v with revokeDone := true }
  | .logLow => { v with logLow := true }
  | .modeChanged => { v with modeChanged := true }

/-- An event set as its byte, in the bit order of R195. -/
def DispEvents.code (v : DispEvents) : Nat :=
  bit v.stateChanged 1 + bit v.sessionEnded 2 + bit v.authReady 4 + bit v.rampLag 8 + bit v.locked 16

def PlantEvents.code (v : PlantEvents) : Nat :=
  bit v.refillGrant 1 + bit v.refillDone 2 + bit v.refillSuspended 4 + bit v.faultRecorded 8 + bit v.modeChanged 16 +
  bit v.calRecorded 32

def SalesEvents.code (v : SalesEvents) : Nat :=
  bit v.saleCommitted 1 + bit v.authExpired 2 + bit v.authConsumed 4 + bit v.revokeDone 8 + bit v.logLow 16 +
  bit v.modeChanged 32

/-- Whether a port's attention line is to be asserted: its set is not empty and, on the plant port, the calibration window is
closed (R195, R124). -/
def lineWanted (s : State) : Port → Bool
  | .disp d => (s.port.dispEvents.get d).any
  | .plant => s.port.plantEvents.any && s.meter.window == 0
  | .sales => s.port.salesEvents.any

/-- The line changes in the same event as the set (R195). -/
def refreshLine (p : Port) (s : State) : State :=
  s.modPort fun u => { u with attention := u.attention.set p (lineWanted s p) }

def addDispEvent (d : Disp) (e : DispEvent) (s : State) : State :=
  refreshLine (.disp d) (s.modPort fun u => { u with dispEvents := u.dispEvents.set d ((u.dispEvents.get d).add e) })

def addPlantEvent (e : PlantEvent) (s : State) : State :=
  refreshLine .plant (s.modPort fun u => { u with plantEvents := u.plantEvents.add e })

def addSalesEvent (e : SalesEvent) (s : State) : State :=
  refreshLine .sales (s.modPort fun u => { u with salesEvents := u.salesEvents.add e })

/-- The set of a port as a byte, and the set emptied with its line deasserted (R196). -/
def eventCode (p : Port) (s : State) : Nat :=
  match p with
  | .disp d => (s.port.dispEvents.get d).code
  | .plant => s.port.plantEvents.code
  | .sales => s.port.salesEvents.code

def clearEvents (p : Port) (s : State) : State :=
  refreshLine p <| s.modPort fun u =>
    match p with
    | .disp d => { u with dispEvents := u.dispEvents.set d .empty }
    | .plant => { u with plantEvents := .empty }
    | .sales => { u with salesEvents := .empty }

/-- R124: the calibration window's count becomes n; 0 closes it. The plant line follows. -/
def setWindow (n : Nat) (s : State) : State := refreshLine .plant (s.modMeter fun m => { m with window := n })

/-- R28: a change of a session's state, with STATE_CHANGED on its dispenser's port. -/
def setPhase (d : Disp) (ph : Phase) (s : State) : State :=
  if (s.sess d).phase = ph then s
  else addDispEvent d .stateChanged (s.modSess d fun r => { r with phase := ph })

/-- R182: a change of station mode, with MODE_CHANGED on the plant and sales ports; a mode that stays adds no event. -/
def setMode (m : Mode) (s : State) : State :=
  if s.fault.mode = m then s
  else addSalesEvent .modeChanged (addPlantEvent .modeChanged (s.modFault fun f => { f with mode := m }))

end Sys2Proof.Machine
end

