-- ==== Sys2Proof/Machine/Gas.lean ====
section
/-! DEFINITION. Density, mass, state of charge, ambient bands and the fill profiles' cells (R14 to R19, R57, R58). -/

namespace Sys2Proof.Machine

/-- D[r][c] of R16. -/
def gasCell (t : GasTable) (r c : Nat) : Nat :=
  match t.rows[r]? with
  | some row => row.entries.getD c 0
  | none => 0

/-- A division that truncates toward zero (00_scope.md, Arithmetic). -/
def truncDiv (a b : Int) : Int := a.tdiv b

/-- R16, stage 2 on one row of the cell. -/
def interpolateRow (t : GasTable) (r i fp : Nat) : Int :=
  (gasCell t r i : Int) + truncDiv (((gasCell t r (i + 1) : Int) - gasCell t r i) * fp) 1000

/-- R16: the density at a pressure and a temperature. -/
def densityAt (t : GasTable) (pressure : Nat) (temperature : Int) : Nat :=
  let p := min pressure 9000
  let k := (max (-400) (min temperature 600) + 400).toNat
  let i := min (p / 1000) 8
  let j := min (k / 200) 4
  let lo := interpolateRow t j i (p - 1000 * i)
  let hi := interpolateRow t (j + 1) i (p - 1000 * i)
  (lo + truncDiv ((hi - lo) * ((k - 200 * j : Nat) : Int)) 200).toNat

/-- R15: a request for a density is answered with none while the table is not VALID. -/
def density? (s : State) (pressure : Nat) (temperature : Int) : Option Nat :=
  if s.inv.table.state = .valid then some (densityAt s.inv.table pressure temperature) else none

/-- R17. -/
def gasMass (density volume : Nat) : Nat := density * volume / 100

/-- R18: the density at the class nominal pressure and 15.0 °C. -/
def referenceDensity (t : GasTable) (c : HoseClass) : Nat := densityAt t (nominalPressure c) 150

/-- The reference density held for a class; absent unless the table is VALID (R18). -/
def refDensity? (s : State) : HoseClass → Option Nat
  | .h70 => s.inv.table.refH70
  | .h35 => s.inv.table.refH35

/-- R14, R17: a configured bank's density and inventory from its last pressure and temperature. -/
def BankEntry.recompute (t : GasTable) (e : BankEntry) : BankEntry :=
  let d := densityAt t e.pressure e.temperature
  { e with density := d, inventory := gasMass d e.volume }

/-- R19: the state of charge of a session's vehicle tank, in tenths of a percent. -/
def stateOfCharge (s : State) (d : Disp) : Option Nat :=
  let r := s.sess d
  match r.vehicle, r.hoseClass with
  | some v, some c =>
    match density? s v.pressure v.temperature, refDensity? s c with
    | some x, some ref => some (min (x * 1000 / ref) 1500)
    | _, _ => none
  | _, _ => none

/-- R57: the ambient band of a try of admission. -/
def ambientBand (a : Ambient) : Nat :=
  if !a.fresh then 5
  else if a.temperature < 0 then 0
  else if a.temperature < 100 then 1
  else if a.temperature < 200 then 2
  else if a.temperature < 300 then 3
  else if a.temperature < 400 then 4
  else 5

def BandRow.cell (r : BandRow) : ColdClass → Nat
  | .a => r.a | .b => r.b | .c => r.c | .n => r.n

/-- The APRR cell of a band and class (R55). -/
def Profile.cell (p : Profile) (band : Nat) (c : ColdClass) : Nat :=
  match p.bands[band]? with
  | some r => r.cell c
  | none => 0

/-- The non-comm target pressure of a band (R55). -/
def Profile.target (p : Profile) (band : Nat) : Nat :=
  match p.bands[band]? with
  | some r => r.target
  | none => 0

/-- R58: the classes a hose class may use, in the order they are tried. -/
def classesOf : HoseClass → List ColdClass
  | .h70 => [.a, .b, .c]
  | .h35 => [.a, .b, .c, .n]

/-- R58: the usable classes of a band, in order. -/
def usableClasses (s : State) (h : HoseClass) (band : Nat) : List ColdClass :=
  (classesOf h).filter fun c => (s.profile h).cell band c != 0

/-- R71: the classes below one, in order. -/
def classesBelow : ColdClass → List ColdClass
  | .a => [.b, .c, .n] | .b => [.c, .n] | .c => [.n] | .n => []

/-- R71: the next lower usable class of a session, down to the floor of its hose class. -/
def nextLowerClass (s : State) (h : HoseClass) (band : Nat) (c : ColdClass) : Option ColdClass :=
  (classesBelow c).find? fun x => (classesOf h).contains x && (s.profile h).cell band x != 0

/-- R62: the pressure target at a ramp clock. -/
def pressureTarget (baseline aprr clock : Nat) : Nat := baseline + aprr * clock / 600

/-- R62: the ceiling. -/
def ceilingOf (p : Profile) (h : HoseClass) (target : Nat) : Nat := min (target + p.dpUp) (hoseLimit h)

/-- The ceiling of a session at its present ramp clock; 0 for a session without a hose class. -/
def sessionCeiling (s : State) (d : Disp) : Nat :=
  let r := s.sess d
  match r.hoseClass with
  | some h => ceilingOf (s.profile h) h (pressureTarget r.rampBaseline r.aprr r.rampClock)
  | none => 0

/-! ### Checks of TABLE_END (R14) -/

inductive TableFailure
  | missingRow (r : Nat) | zeroColumn (r : Nat) | pressureOrder (r c : Nat) | temperatureOrder (r c : Nat)
  | referenceZero (h : HoseClass)
  deriving DecidableEq, Repr

/-- The positions of the table, rows in ascending order and, within a row, columns in ascending order. -/
def tablePositions : List (Nat × Nat) := (List.range 6).flatMap fun r => (List.range 10).map fun c => (r, c)

/-- The first check of R14 that fails, with its position. Where both reference densities are 0, H70 is named, a choice of the model
(assumption 26). -/
def tableFailure (t : GasTable) : Option TableFailure :=
  match (List.range 6).find? (fun r => !(match t.rows[r]? with | some x => x.received | none => false)) with
  | some r => some (.missingRow r)
  | none =>
  match (List.range 6).find? (fun r => gasCell t r 0 != 0) with
  | some r => some (.zeroColumn r)
  | none =>
  match tablePositions.find? (fun q => decide (0 < q.2) && decide (gasCell t q.1 q.2 < gasCell t q.1 (q.2 - 1))) with
  | some q => some (.pressureOrder q.1 q.2)
  | none =>
  match tablePositions.find? (fun q => decide (0 < q.1) && decide (gasCell t (q.1 - 1) q.2 < gasCell t q.1 q.2)) with
  | some q => some (.temperatureOrder q.1 q.2)
  | none =>
  match [HoseClass.h70, HoseClass.h35].find? (fun h => referenceDensity t h == 0) with
  | some h => some (.referenceZero h)
  | none => none

end Sys2Proof.Machine
end

