-- ==== Sys2Proof/Machine/AuthOps.lean ====
section
/-! DEFINITION. The Authorization Table's shared operations: budget, amount, numbers, return and settlement of entries, and the
outstanding set of a revocation (R135, R136, R140 to R142, R147). -/

namespace Sys2Proof.Machine

/-- R136. -/
def budgetOf (limit price : Nat) (preset : Option Nat) : Nat :=
  let b := min (limit * 1000 / price) maxWord
  match preset with
  | none => b
  | some m => min b m

/-- R140: the mass times the price in thousandths of a minor unit, rounded half up. -/
def amountOf (mass price : Nat) : Nat := (mass * price + 500) / 1000

/-- R140. -/
def billedAmount (mass price limit : Nat) : Nat := min (amountOf mass price) limit

/-- R140: the capped flag. -/
def cappedFlag (mass price limit : Nat) : Bool := decide (limit < amountOf mass price)

def findEntry (s : State) (n : Nat) : Option AuthEntry := s.auth.entries.find? fun e => e.number == n

/-- R30, fifth check: the dispenser's PENDING entry. -/
def pendingEntry (s : State) (d : Disp) : Option AuthEntry := s.auth.entries.find? fun e => e.disp == d && !e.bound

/-- The BOUND entry of a dispenser's session (R132). -/
def boundEntry (s : State) (d : Disp) : Option AuthEntry := s.auth.entries.find? fun e => e.disp == d && e.bound

/-- A freed entry leaves its position free at once (R132). -/
def freeEntry (n : Nat) (s : State) : State :=
  s.modAuth fun a => { a with entries := a.entries.filter fun e => e.number != n }

def modEntry (n : Nat) (f : AuthEntry → AuthEntry) (s : State) : State :=
  s.modAuth fun a => { a with entries := a.entries.map fun e => if e.number = n then f e else e }

/-- Entries stand in ascending order of number (R149). -/
def insertEntry (x : AuthEntry) : List AuthEntry → List AuthEntry
  | [] => [x]
  | e :: es => if x.number < e.number then x :: e :: es else e :: insertEntry x es

/-- The entry becomes PENDING, its expiry timer starts at the full expiry time, and AUTH_READY is added (R132, R137). -/
def makePending (e : AuthEntry) (s : State) : State :=
  addDispEvent e.disp .authReady (modEntry e.number (fun x => { x with bound := false, timer := some (x.expiry * 1000) }) s)

/-- R135: the number after one, with 65535 followed by 1. -/
def numberAfter (n : Nat) : Nat := if 65535 ≤ n then 1 else n + 1

/-- R135: the first of the numbers from n on that no entry holds; among fuel + 1 numbers one is free when fuel entries exist. -/
def firstFreeNumber (es : List AuthEntry) : Nat → Nat → Nat
  | 0, n => n
  | fuel + 1, n => if es.any (fun e => e.number == n) then firstFreeNumber es fuel (numberAfter n) else n

/-- R135. -/
def nextNumber (a : AuthTable) : Nat := firstFreeNumber a.entries a.entries.length (numberAfter a.lastNumber)

/-- R147: a dispenser leaves the outstanding set; when the set becomes empty the revocation ends and REVOKE_DONE is added. -/
def leaveOutstanding (d : Disp) (s : State) : State :=
  match s.auth.revocation with
  | none => s
  | some r =>
    if r.outstanding.get d then
      let rest := r.outstanding.set d false
      if rest.toList.any id then s.modAuth fun a => { a with revocation := some { r with outstanding := rest } }
      else addSalesEvent .revokeDone (s.modAuth fun a => { a with revocation := none })
    else s

/-- R141: the entry of a session ended without a record returns to PENDING, or is freed if it is marked revoke-on-close or the
reason is REVOKED. -/
def returnEntry (d : Disp) (reason : Reason) (s : State) : State :=
  leaveOutstanding d <|
    match boundEntry s d with
    | none => s
    | some e => if e.revokeOnClose || reason == .revoked then freeEntry e.number s else makePending e s

/-- R142: settlement at the commit completion of a session's sale record. -/
def settleEntry (d : Disp) (s : State) : State :=
  leaveOutstanding d <|
    match boundEntry s d with
    | none => s
    | some e =>
      if e.kind == .fleetRun && decide (1 < e.vehicles.getD 0) && !e.revokeOnClose then
        makePending e (modEntry e.number (fun x =>
          { x with vehicles := x.vehicles.map (· - 1), budget := budgetOf x.limit x.price x.preset }) s)
      else addSalesEvent .authConsumed (freeEntry e.number s)

end Sys2Proof.Machine
end

