-- ==== Sys2Proof/Machine/LogOps.lean ====
section
/-! DEFINITION. The Log Controller's shared operations: free count and reservations, the choice of the array's next operation, the
commit queue, and the open-session slots (R152 to R157, R166). -/

namespace Sys2Proof.Machine

/-- R154: the greatest sequence number given: that of a commit in progress, or the newest one present (assumption 23). -/
def lastGiven (l : LogController) (v : LogView) : Nat :=
  match l.op with
  | .committing _ _ seq => seq
  | .idle | .erasing _ => v.newest.getD 0

/-- R154: the sequence numbers not yet given. -/
def remainingNumbers (l : LogController) (v : LogView) : Nat := maxWord - lastGiven l v

/-- R155: the free count, which the start of a commit leaves unchanged; 0 during the start-up scan. -/
def freeSlots (s : State) : Nat :=
  match s.log.view with
  | none => 0
  | some v => min v.erased (remainingNumbers s.log v) - s.log.reserved

/-- R155: a reservation taken by a NOZZLE_ON or a SET_METER_FACTOR; LOG_LOW when it brings the free count from 64 to 63. -/
def reserveSlot (s : State) : State :=
  let t := s.modLog fun l => { l with reserved := l.reserved + 1 }
  if freeSlots s = 64 then addSalesEvent .logLow t else t

/-- R155: a reservation taken by recovery. -/
def reserveForRecovery (s : State) : State := s.modLog fun l => { l with reserved := l.reserved + 1 }

def releaseReservation (s : State) : State := s.modLog fun l => { l with reserved := l.reserved - 1 }

def modSlot (d : Disp) (f : OpenSlot → OpenSlot) (s : State) : State :=
  s.modLog fun l =>
    { l with retained := { l.retained with slots := l.retained.slots.set d ((l.retained.slots.get d).map f) } }

def clearSlot (d : Disp) (s : State) : State :=
  s.modLog fun l => { l with retained := { l.retained with slots := l.retained.slots.set d none } }

/-- R166: the fields of an occupied open-session slot that are kept current with the session. -/
def OpenSlot.follow (r : Session) (o : OpenSlot) : OpenSlot :=
  { o with
    fillKind := r.fillKind, pulses := r.pulses, classAtStart := r.classAtStart, classNow := r.classNow,
    coldShortfall := r.coldShortfall, bankUse := r.bankUse.map fun u => (u.bank, u.drawn) }

/-- Keeps the open-session slot current after a change of the session (R166). -/
def syncSlot (d : Disp) (s : State) : State := modSlot d (OpenSlot.follow (s.sess d)) s

/-- A change of a session's fields that its open-session slot follows. -/
def modBilled (d : Disp) (f : Session → Session) (s : State) : State := syncSlot d (s.modSess d f)

def blockOf (slot : Nat) : Nat := slot / 32

/-- R153: the block holding the oldest record, if it is erasable: its 32 slots COMMITTED, its records released, and the newest
record elsewhere. -/
def erasableBlock (l : LogController) : Option Nat :=
  match l.view with
  | some { oldest := some o, newest := some n, .. } =>
    let b := blockOf (slotOf o)
    let cells := l.array.filter fun c => blockOf c.1 == b
    if cells.length == 32 && cells.all (fun c => decide (c.2.seq ≤ l.retained.release)) && blockOf (slotOf n) != b then some b
    else none
  | _ => none

/-- The dispenser whose open-session slot a queued record was written from (R157). -/
def Source.disp? : Source → Option Disp
  | .session d => some d
  | .recovered d => some d
  | .calibration => none

/-- R157: the start of the commit of the queue's head. -/
def startCommit (s : State) : State :=
  match s.log.queue, s.log.view with
  | e :: rest, some v =>
    let seq := v.newest.getD 0 + 1
    let e' := { e with record := e.record.stamped s.port.stationId seq }
    let t := s.modLog fun l =>
      { l with
        queue := rest ++ l.offers.take 1, offers := l.offers.drop 1, reserved := l.reserved - 1,
        op := .committing e' v.writePos seq,
        view := some { v with erased := v.erased - 1, writePos := (v.writePos + 1) % 2048 } }
    match e.source.disp? with
    | some d => modSlot d (fun o => { o with committing := some seq }) t
    | none => t
  | _, _ => s

/-- R152: when the array is IDLE, a queued commit starts, or otherwise the erase of an erasable block. -/
def chooseOperation (s : State) : State :=
  if s.log.op == .idle && s.log.view.isSome then
    if s.log.queue.isEmpty then
      match erasableBlock s.log with
      | some b => s.modLog fun l => { l with op := .erasing b }
      | none => s
    else startCommit s
  else s

/-- R48, R156: a record joins the tail of the commit queue, or waits outside it while the queue holds 8. -/
def offerRecord (e : QueueEntry) (s : State) : State :=
  if s.log.queue.length < 8 then chooseOperation (s.modLog fun l => { l with queue := l.queue ++ [e] })
  else s.modLog fun l => { l with offers := l.offers ++ [e] }

end Sys2Proof.Machine
end

