-- ==== Sys2Proof/Machine/EndOps.lean ====
section
/-! DEFINITION. The end of a session apart from its lane and from the admissions it makes room for (R43 to R49). -/

namespace Sys2Proof.Machine

/-- R48: the sale record of a session, from its record and its authorization. -/
def saleRecordOf (s : State) (d : Disp) : SaleRecord :=
  let r := s.sess d
  let e := boundEntry s d
  let price := (e.map (·.price)).getD 0
  let limit := (e.map (·.limit)).getD 0
  { disp := d, station := 0, seq := 0, startTime := r.startTime, endTime := r.endTime.getD 0,
    authNumber := r.authNumber.getD 0, group := (e.map (·.group)).getD 0, line := (e.map (·.line)).getD 0,
    account := (e.map (·.account)).getD 0, price := price, limit := limit, mass := r.mass,
    amount := billedAmount r.mass price limit, k := r.k, metrology := r.metrology,
    soc := if r.fillKind = some .comm then stateOfCharge s d else none,
    hoseClass := r.hoseClass, fillKind := r.fillKind, classAtStart := r.classAtStart, classAtEnd := r.classNow,
    reason := r.reason, timeUnset := r.timeUnset, capped := cappedFlag r.mass price limit,
    coldShortfall := r.coldShortfall, bankUse := r.bankUse.map fun u => (u.bank, u.drawn) }

/-- R48: the settle window ends; the mass is final and the sale record is offered to the commit queue. -/
def endSettle (d : Disp) (s : State) : State :=
  let rec' := saleRecordOf s d
  let t := setPhase d .commitWait (s.modSess d fun r => { r with settleTimer := none })
  offerRecord { source := .session d, record := .sale rec' } t

/-- R44 but for the lane: the claim, the reservation and the open-session slot are released, the entry is handed back, and the
session becomes IDLE. -/
def endWithoutRecord (d : Disp) (reason : Reason) (s : State) : State :=
  setPhase d .idle <| returnEntry d reason <| clearSlot d <| releaseReservation <|
    s.modSess d fun r => { r with claim := 0 }

/-- R45 but for the lane: the permit drops, the claim is released and the settle timer starts. A settle time of 0 makes the
window expire as it starts (R47). -/
def enterClosing (d : Disp) (s : State) : State :=
  let t := setPhase d .closing <|
    s.modUnit d fun u => { u with permit := false, sess := { u.sess with claim := 0, settleTimer := some s.settleTime } }
  if s.settleTime = 0 then endSettle d t else t

/-- R43: what every termination of a session before CLOSING does. -/
def fixEnd (d : Disp) (reason : Reason) (s : State) : State :=
  let t := s.modSess d fun r =>
    { r with
      reason := some reason, endTime := some s.port.clock, timeUnset := r.timeUnset || !s.port.clockSet,
      supervision := none, waitTimer := none, graceTimer := none, exceedTimer := none, checkActive := false,
      tankTimer := none }
  addDispEvent d .sessionEnded <|
    (t.modCold fun c => { c with queue := c.queue.filter (· != d) }).modLane fun l =>
      { l with waitList := l.waitList.filter fun w => w.disp != d }

/-- R43, R44, R45 but for the lane: the end of a session before CLOSING. -/
def endCore (d : Disp) (reason : Reason) (s : State) : State :=
  let r := s.sess d
  if r.phase.active then
    let t := fixEnd d reason s
    if !r.flowBegun && r.pulses == 0 then endWithoutRecord d reason t else enterClosing d t
  else s

end Sys2Proof.Machine
end

