-- ==== Sys2Proof/Machine/LaneOps.lean ====
section
/-! DEFINITION. The Lane Arbiter's shared operations: eligibility, the best bank, grants, requests, the refill queue, the end of
a refill run, and the arbiter pass (R96 to R108, R112). None of them raises a fault. -/

namespace Sys2Proof.Machine

/-! ### Choosing a bank -/

def BankEntry.serves (e : BankEntry) : HoseClass → Bool
  | .h70 => e.servesH70
  | .h35 => e.servesH35

/-- R96. -/
def eligible (s : State) (d : Disp) (b : Bank) : Bool :=
  let e := s.bank b
  let r := s.sess d
  e.service == .inService && e.fresh &&
  (match r.hoseClass with
   | some c => e.serves c
   | none => false) &&
  !(r.bankUse.any fun u => u.bank == b) &&
  decide (r.hosePressure + s.lane.settings.dpStart ≤ e.pressure)

/-- A bank is free when its lane holder is none (R96). -/
def bankFree (s : State) (b : Bank) : Bool := (s.bank b).holder == none

def anyEligible (s : State) (d : Disp) : Bool := Bank.all.any (eligible s d)

/-- R97: lower tier first, then lower last pressure. -/
def betterBank (s : State) (b c : Bank) : Bool :=
  decide ((s.bank b).tier < (s.bank c).tier) ||
  (decide ((s.bank b).tier = (s.bank c).tier) && decide ((s.bank b).pressure < (s.bank c).pressure))

/-- R97: the first bank of a list that no later one betters. -/
def bestOf (s : State) (bs : List Bank) : Option Bank :=
  bs.foldl (fun best b =>
    match best with
    | none => some b
    | some c => if betterBank s b c then some b else some c) none

/-- R97: the best bank for a session, among the banks eligible for it and free. No lane is granted in SHUTDOWN (R114). -/
def bestBank (s : State) (d : Disp) : Option Bank :=
  if s.fault.mode = .shutdown then none
  else bestOf s (Bank.all.filter fun b => eligible s d b && bankFree s b)

/-! ### The refill queue -/

/-- R106: a bank's request leaves the refill queue; its refill request time becomes absent. -/
def leaveQueue (b : Bank) (s : State) : State :=
  if s.lane.refillQueue.contains b then
    (s.modBank b fun e => { e with requestTime := none }).modLane fun l =>
      { l with refillQueue := l.refillQueue.filter (· != b) }
  else s

/-- R106: whether b, requested at time t, stands before c in the queue. -/
def queueBefore (s : State) (b : Bank) (t : Nat) (c : Bank) : Bool :=
  let tb := (s.bank b).tier
  let tc := (s.bank c).tier
  let u := (s.bank c).requestTime.getD 0
  decide (tc < tb) || (tb == tc && (decide (t < u) || (t == u && decide (b.toNat < c.toNat))))

def insertBank (before : Bank → Bool) (b : Bank) : List Bank → List Bank
  | [] => [b]
  | c :: cs => if before c then b :: c :: cs else c :: insertBank before b cs

/-- R106: a bank joins the refill queue at its place for a request time. -/
def joinQueue (b : Bank) (t : Nat) (s : State) : State :=
  (s.modLane fun l => { l with refillQueue := insertBank (queueBefore s b t) b l.refillQueue }).modBank b
    fun e => { e with requestTime := some t }

/-- A bank that leaves IN_SERVICE leaves the refill queue and the deferred refill list (R104, R106). -/
def dropRequests (b : Bank) (s : State) : State :=
  (leaveQueue b s).modLane fun l => { l with deferred := l.deferred.filter fun x => x.bank != b }

/-- R103, step 4, and R106: at the release of a dispenser's lane the bank leaves the deferred refill list, and rejoins the queue
for its original request time if it is IN_SERVICE, FRESH and below its refill stop pressure. No bank joins in SHUTDOWN. -/
def requeueDeferred (b : Bank) (s : State) : State :=
  match s.lane.deferred.find? (fun x => x.bank == b) with
  | none => s
  | some x =>
    let t := s.modLane fun l => { l with deferred := l.deferred.filter fun y => y.bank != b }
    let e := s.bank b
    if e.service == .inService && e.fresh && decide (e.pressure < e.refillStop) && s.fault.mode != .shutdown then
      joinQueue b x.time t
    else t

/-! ### Grants and requests of sessions -/

/-- R98, first answer: the lane of a bank is granted to a session and the route switch begins (R93). A queued bank moves to the
deferred refill list, at its end: R106 gives that list no order, and the order of joining is a choice of the model (assumption 31). -/
def grantLane (d : Disp) (b : Bank) (s : State) : State :=
  let e := s.bank b
  let queued := s.lane.refillQueue.contains b
  let t := (leaveQueue b s).modLane fun l =>
    { l with
      deferred := if queued then l.deferred ++ [{ bank := b, time := e.requestTime.getD 0 }] else l.deferred,
      waitList := l.waitList.filter fun w => w.disp != d }
  let t := t.modBank b fun x => { x with holder := some (.disp d) }
  let t := t.modUnit d fun u =>
    { u with
      switchTimer := some s.lane.settings.switchTime,
      sess := { u.sess with
        currentBank := some b, waitTimer := none,
        bankUse := u.sess.bankUse ++
          [{ bank := b, massAtGrant := u.sess.mass, drawn := 0, inventoryAtGrant := e.inventory }] } }
  setPhase d .switching (syncSlot d t)

/-- R99: a session joins the tail of the lane wait list. -/
def joinWaitList (d : Disp) (s : State) : State :=
  s.modLane fun l =>
    { l with
      waitList := l.waitList ++
        [{ disp := d, joined := s.port.clock, yieldTimer := some (l.settings.yieldTime * 1000), due := false,
           waited := 0 }] }

/-- Entry into a waiting state, with the wait timer at that state's limit (R29). -/
def enterWait (d : Disp) (ph : Phase) (limit : Nat) (s : State) : State :=
  setPhase d ph (s.modSess d fun r => { r with waitTimer := some limit })

/-- R98: a session in LANE_WAIT asks for its first bank. -/
def requestFirst (d : Disp) (s : State) : State :=
  let t := enterWait d .laneWait 60000 s
  match bestBank t d with
  | some b => grantLane d b t
  | none => if anyEligible t d then joinWaitList d t else endCore d .noBank t

/-- R102: a session mid-fill asks for its next bank. -/
def requestNext (d : Disp) (s : State) : State :=
  match bestBank s d with
  | some b => grantLane d b s
  | none =>
    if anyEligible s d then joinWaitList d (enterWait d .bankWait 30000 s) else endCore d .banksExhausted s

/-- A session that an event has left in FLOWING or SWITCHING without a lane. -/
def laneLost (s : State) (d : Disp) : Bool :=
  let r := s.sess d
  (r.phase == .flowing || r.phase == .switching) && r.currentBank == none

/-- R101, R104: a session whose lane was released in this event asks for its next bank, or for a first bank if flow has not
begun. -/
def askAgain (s : State) (d : Disp) : State :=
  if laneLost s d then
    if (s.sess d).flowBegun then requestNext d s else requestFirst d s
  else s

/-! ### Refill runs -/

/-- R108: the end of a refill run. tell says which event is added for a run that was RUNNING, if any. The arbiter pass that
follows is the caller's. -/
def endRefill (reason : EndReason) (tell : Option PlantEvent) (s : State) : State :=
  match s.lane.refill.state, s.lane.refill.bank with
  | .none, _ => s
  | _, none => s
  | st, some b =>
    let t := (setValve b .compressor false s).modBank b fun e => { e with holder := none }
    let t := t.modLane fun l =>
      { l with
        refill := { state := .none, bank := none, requestTime := none, outcome := some { bank := b, reason := reason },
                    switchTimer := none } }
    match st, tell with
    | .running, some ev => addPlantEvent ev t
    | _, _ => t

/-- R107: the conditions under which the refill offer grants. -/
def offerOpen (s : State) : Bool :=
  s.fault.mode != .shutdown && s.inv.compressor.state == .available && s.lane.refill.state == .none

/-- R107: the bank the refill offer takes: the first in queue order that is FRESH, free, and eligible for no waiter. -/
def offerBank (s : State) : Option Bank :=
  s.lane.refillQueue.find? fun b =>
    (s.bank b).fresh && bankFree s b && !(s.lane.waitList.any fun w => eligible s w.disp b)

/-- R107: the refill offer. -/
def refillOffer (s : State) : State :=
  if offerOpen s then
    match offerBank s with
    | none => s
    | some b =>
      let time := (s.bank b).requestTime
      ((leaveQueue b s).modBank b fun e => { e with holder := some .compressor }).modLane fun l =>
        { l with
          refill := { l.refill with
            state := .switching, bank := some b, requestTime := time, switchTimer := some l.settings.switchTime } }
  else s

/-- R112: a due waiter takes the compressor's lane when its bank is eligible for the waiter. The bank joins the deferred
refill list at its end, a choice of the model (assumption 31). -/
def yieldTo (d : Disp) (s : State) : State :=
  match s.lane.refill.state, s.lane.refill.bank with
  | .none, _ => s
  | _, none => s
  | _, some b =>
    if eligible s d b then
      let time := s.lane.refill.requestTime.getD 0
      let t := endRefill .yielded (some .refillSuspended) s
      grantLane d b (t.modLane fun l => { l with deferred := l.deferred ++ [{ bank := b, time := time }] })
    else s

/-! ### The arbiter pass -/

/-- R100, step 1, for one waiter. -/
def passWaiter (s : State) (d : Disp) : State :=
  match s.lane.waitList.find? (fun w => w.disp == d) with
  | none => s
  | some w =>
    match bestBank s d with
    | some b => grantLane d b s
    | none => if w.due then yieldTo d s else s

/-- R100: the arbiter pass. In SHUTDOWN it grants nothing. -/
def arbiterPass (s : State) : State :=
  if s.fault.mode = .shutdown then s
  else refillOffer ((s.lane.waitList.map (·.disp)).foldl passWaiter s)

end Sys2Proof.Machine
end

