-- ==== Sys2Proof/Machine/ColdOps.lean ====
section
/-! DEFINITION. The Cold Reserve Unit's shared operations: claims and their trimming, the estimate, and admission (R76, R79, R82 to
R84). -/

namespace Sys2Proof.Machine

/-- The sum of the claims (R76). -/
def claimSum (s : State) : Nat := (Disp.all.map fun d => (s.sess d).claim).sum

/-- The available cold (R76). -/
def availableCold (s : State) : Nat := s.cold.reserve - claimSum s

/-- The load of a cold class in kJ per kilogram; 0 for N (R75). -/
def loadOf (c : ColdConfig) : ColdClass → Nat
  | .a => c.loadA | .b => c.loadB | .c => c.loadC | .n => 0

/-- The delivery limit of a cold class; N has none (R75). -/
def limitOf (c : ColdConfig) : ColdClass → Option Int
  | .a => some c.limitA | .b => some c.limitB | .c => some c.limitC | .n => none

def insertByStamp (s : State) (d : Disp) : List Disp → List Disp
  | [] => [d]
  | x :: xs => if (s.sess d).stamp.getD 0 ≤ (s.sess x).stamp.getD 0 then d :: x :: xs else x :: insertByStamp s d xs

/-- Dispensers in order of admission stamp, oldest first. -/
def byStamp (s : State) (ds : List Disp) : List Disp := ds.foldr (insertByStamp s) []

/-- R79, one session: its claim is lowered by no more than the excess; a claim so lowered to 0 sets the cold-shortfall flag. -/
def trimOne (st : State × Nat) (d : Disp) : State × Nat :=
  let c := (st.1.sess d).claim
  let cut := min c st.2
  if cut = 0 then st
  else (modBilled d (fun r => { r with claim := c - cut, coldShortfall := r.coldShortfall || c == cut }) st.1, st.2 - cut)

/-- R79: the claims are trimmed, newest stamp first, until their sum is at most the reserve. -/
def trimClaims (s : State) : State :=
  ((byStamp s Disp.all).reverse.foldl trimOne (s, claimSum s - s.cold.reserve)).1

/-- R83: the mass the head session is estimated to take, before the budget is applied. -/
def rawEstimate (s : State) (d : Disp) : Nat :=
  let r := s.sess d
  match r.hoseClass with
  | none => 0
  | some h =>
    match r.fillKind, r.vehicle with
    | some .comm, some v =>
      gasMass ((refDensity? s h).getD 0) v.volume - gasMass ((density? s v.pressure v.temperature).getD 0) v.volume
    | _, _ =>
      match (boundEntry s d).bind (·.preset) with
      | some m => m
      | none => (s.profile h).nominalMass

/-- R83. -/
def massEstimate (s : State) (d : Disp) : Nat := min (rawEstimate s d) (s.sess d).budget

/-- R84: the estimate times the class load, divided by 1000 and rounded up. -/
def claimFor (estimate load : Nat) : Nat := (estimate * load + 999) / 1000

/-- R84: the first usable class whose claim is at most the available cold. -/
def chooseClass (s : State) (d : Disp) : Option ColdClass :=
  match (s.sess d).hoseClass with
  | none => none
  | some h =>
    (usableClasses s h (ambientBand s.inv.ambient)).find? fun c =>
      decide (claimFor (massEstimate s d) (loadOf s.cold.config c) ≤ availableCold s)

/-- R84, steps 1 to 6, and R58: the session is given its class, claim, stamp, band and APRR, and leaves the queue. -/
def admitAs (d : Disp) (c : ColdClass) (s : State) : State :=
  let band := ambientBand s.inv.ambient
  let rate := match (s.sess d).hoseClass with
    | some h => (s.profile h).cell band c
    | none => 0
  let claim := claimFor (massEstimate s d) (loadOf s.cold.config c)
  let t := modBilled d (fun r =>
    { r with
      claim := claim, classAtStart := some c, classNow := some c, drawAcc := 0, stamp := some (s.cold.lastStamp + 1),
      band := some band, aprr := rate, rampBaseline := 0, rampClock := 0, lastCeiling := 0 }) s
  t.modCold fun q => { q with lastStamp := q.lastStamp + 1, queue := q.queue.filter (· != d) }

/-- R84: one try of admission at the head; none where the queue is empty or the head is not admitted. -/
def admitHead (s : State) : Option State :=
  match s.cold.queue with
  | [] => none
  | d :: _ =>
    match chooseClass s d with
    | none => none
    | some c => some (requestFirst d (admitAs d c s))

def admitUpTo : Nat → State → State
  | 0, s => s
  | n + 1, s =>
    match admitHead s with
    | none => s
    | some t => admitUpTo n t

/-- R82: a try of admission: heads are admitted until the queue is empty or a head is not admitted. -/
def tryAdmission (s : State) : State := admitUpTo s.cold.queue.length s

/-- R101, R104: after the releases of one event, the sessions ask for their banks in order of admission stamp, oldest first; the
arbiter pass runs once after them; and admission is tried if a session ended (R90). -/
def resumeAfterRelease (ds : List Disp) (s : State) : State :=
  let t := (byStamp s ds).foldl askAgain s
  let u := arbiterPass t
  if ds.any (fun d => (s.sess d).phase.active && !(t.sess d).phase.active) then tryAdmission u else u

end Sys2Proof.Machine
end

