-- ==== Sys2Proof/Machine/FaultOps.lean ====
section
/-! DEFINITION. Raising a fault and its action; the release of a dispenser's lane with the balance check; the termination of a
session; the entry into SHUTDOWN (R9, R43, R50, R103, R104, R113, R171 to R178, R183 to R185).
A release may raise BALANCE_MISMATCH, whose action may enter SHUTDOWN, which ends sessions and releases their lanes. The entry is
made once, because in SHUTDOWN it is not made again (R185): so releaseLaneWith and terminateWith take the entry as an argument. -/

namespace Sys2Proof.Machine

/-! ### Recording a fault (R171, steps 2 to 4) -/

/-- R174: the context of a fault, as it stands at the raise. -/
def captureContext (s : State) (kind : FaultKind) (site : Site) (sev : Severity) (consumer : Option Consumer) : Context :=
  let here : Option Session := match site with
    | .disp d => some (s.sess d)
    | _ => none
  let running : Option Session := here.bind fun r => if r.phase = .idle then none else some r
  { kind := kind, site := site, severity := sev, time := s.port.clock, timeUnset := !s.port.clockSet,
    phase := here.map (·.phase), hosePressure := running.map (·.hosePressure),
    bank := match site with
      | .bank b => some b
      | .disp _ => here.bind (·.currentBank)
      | .station => none,
    consumer := if kind = .valveFault then consumer else none,
    trace := match running with
      | some r => r.trace
      | none => [] }

/-- R174, R176: the context goes into its slot, or the kind into the slot's next-fault set. -/
def FaultMonitor.capture (f : FaultMonitor) (c : Context) : FaultMonitor :=
  match c.severity with
  | .note =>
    match f.firstNote with
    | none => { f with firstNote := some c }
    | some _ => { f with nextNote := f.nextNote.set c.kind true }
  | _ =>
    match f.firstSevere with
    | none => { f with firstSevere := some c }
    | some _ => { f with nextSevere := f.nextSevere.set c.kind true }

/-- R178. -/
def Counter.count (k : FaultKind) (c : Counter) : Counter :=
  if c.sel = some k then { c with value := min (c.value + 1) 65535 } else c

/-- The severity at which a kind is acted on now (R171, step 1). -/
def severityNow (s : State) (kind : FaultKind) : Severity := s.fault.severity.get kind

/-- R171, steps 2 to 4. -/
def recordFault (kind : FaultKind) (site : Site) (consumer : Option Consumer) (s : State) : State :=
  let c := captureContext s kind site (severityNow s kind) consumer
  addPlantEvent .faultRecorded <| s.modFault fun f =>
    { f.capture c with counters := f.counters.map (Counter.count kind) }

/-! ### Station actions -/

/-- R173, R183: a SHUTDOWN action: the demand in STARTING, nothing more in SHUTDOWN, and the entry otherwise. -/
def shutdownAction (enter : State → State) (s : State) : State :=
  match s.fault.mode with
  | .starting => s.modFault fun f => { f with demand := true }
  | .shutdown => s
  | _ => enter s

/-- R9: the bank becomes FAULT if it was IN_SERVICE or ISOLATED, and its requests are dropped. -/
def faultBank (b : Bank) (s : State) : State :=
  let sv := (s.bank b).service
  if sv = .inService || sv = .isolated then dropRequests b (s.modBank b fun e => { e with service := .fault }) else s

/-! ### Release of a dispenser's lane -/

/-- R113: whether the balance check at a release raises BALANCE_MISMATCH: the last bank-use entry, at least 500 g drawn, the bank
FRESH, and the excess above 200 + drawn / 50. -/
def balanceFails (s : State) (d : Disp) (b : Bank) : Bool :=
  match (s.sess d).bankUse.getLast? with
  | none => false
  | some u =>
    decide (500 ≤ u.drawn) && (s.bank b).fresh &&
    decide ((200 + u.drawn / 50 : Nat) < (u.inventoryAtGrant : Int) - (s.bank b).inventory - u.drawn)

/-- BALANCE_MISMATCH at a bank whose lane has been released (R113, R173): the session that released it is past that lane.
At SHUTDOWN the entry comes before that session asks for its next bank, so it ends with SHUTDOWN (assumption 25). -/
def raiseMismatch (enter : State → State) (b : Bank) (s : State) : State :=
  let t := recordFault .balanceMismatch (.bank b) none s
  match severityNow s .balanceMismatch with
  | .note => t
  | .stop => faultBank b t
  | .shutdown => shutdownAction enter (faultBank b t)

/-- R103, steps 1 to 4: the switch in flight is abandoned, the valve closes, the balance check is made, the lane holder and the
current bank become none, and a deferred bank rejoins the refill queue. -/
def releaseLaneWith (enter : State → State) (d : Disp) (s : State) : State :=
  match (s.sess d).currentBank with
  | none => s
  | some b =>
    let t := (setValve b (.disp d) false s).modUnit d fun u =>
      { u with switchTimer := none, sess := { u.sess with currentBank := none } }
    let t := requeueDeferred b (t.modBank b fun e => { e with holder := none })
    if balanceFails s d b then raiseMismatch enter b t else t

/-- R43 to R45, R90, R103: the termination of a session, with the release of its lane, the arbiter pass, and the admission it
makes room for. A session in CLOSING or COMMIT_WAIT keeps its course; on an IDLE one nothing is done. -/
def terminateWith (enter : State → State) (d : Disp) (reason : Reason) (s : State) : State :=
  let r := s.sess d
  if r.phase.active then
    let wasHead := s.cold.queue.head? == some d
    let t := endCore d reason s
    let t := if r.currentBank.isSome then arbiterPass (releaseLaneWith enter d t) else t
    if r.phase != .coldWait || wasHead then tryAdmission t else t
  else s

/-! ### Entry into SHUTDOWN -/

/-- R114: the lanes, queues and valves at the entry. -/
def closeAllLanes (s : State) : State :=
  let t := endRefill .shutdown (some .refillDone) s
  let t := t.modLane fun l =>
    { l with valves := .same (.same false), waitList := [], refillQueue := [], deferred := [] }
  t.modInv fun i => { i with banks := i.banks.map fun e => { e with holder := none, requestTime := none } }

/-- R185: the entry into SHUTDOWN, handed to every block. -/
def enterShutdown (s : State) : State :=
  let t := setMode .shutdown s
  let t := (t.modCold fun c => { c with queue := [] }).modLane fun l => { l with waitList := [] }
  closeAllLanes (Disp.all.foldl (fun u d => terminateWith id d .shutdown u) t)

def releaseLane (d : Disp) (s : State) : State := releaseLaneWith enterShutdown d s

def terminate (d : Disp) (reason : Reason) (s : State) : State := terminateWith enterShutdown d reason s

/-- R146: the sessions of several dispensers end in one event: all of them end, their lanes are released, the arbiter pass runs once
after the releases (R100), and admission is tried last (R90), so that none of them is admitted in between. That they end, and
release their lanes, in dispenser order is a choice of the model (assumption 24). -/
def terminateAll (ds : List Disp) (reason : Reason) (s : State) : State :=
  let hit := ds.filter fun d => (s.sess d).phase.active
  let held := hit.filter fun d => (s.sess d).currentBank.isSome
  let t := held.foldl (fun x d => releaseLane d x) (hit.foldl (fun x d => endCore d reason x) s)
  let u := if held.isEmpty then t else arbiterPass t
  if hit.any (fun d => (s.sess d).phase != .coldWait || s.cold.queue.head? == some d) then tryAdmission u else u

/-! ### Raising a fault (R171) -/

/-- R27: the LOCKED flag, with LOCKED on the dispenser's port when it goes from clear to set. -/
def lockDisp (d : Disp) (s : State) : State :=
  if s.fault.locked.get d then s
  else addDispEvent d .locked (s.modFault fun f => { f with locked := f.locked.set d true })

/-- R50: the reason of a session ended by a fault at its site. -/
def faultReason : FaultKind → Reason
  | .linkLost => .linkLost
  | .rampOver => .rampOver
  | .pressureLimit => .pressureLimit
  | .sensorRange | .bankStale | .ambientStale | .frameError | .valveFault | .compressorFault | .leakFlow
  | .balanceMismatch | .esdInput | .retainLost | .calSwitch => .faultStop

/-- R173, dispenser site at STOP: the dispenser is locked and its session ends (R50). -/
def stopDisp (kind : FaultKind) (d : Disp) (s : State) : State := terminate d (faultReason kind) (lockDisp d s)

/-- A fault at a dispenser. At SHUTDOWN the model makes the site action before the entry into SHUTDOWN, so the session keeps the
reason of the fault; the spec leaves the order open (R50, R64, R173; assumption 25). -/
def raiseDisp (kind : FaultKind) (d : Disp) (s : State) : State :=
  let t := recordFault kind (.disp d) none s
  match severityNow s kind with
  | .note => t
  | .stop => stopDisp kind d t
  | .shutdown => shutdownAction enterShutdown (stopDisp kind d t)

/-- A fault at the station (R173, R184). -/
def raiseStation (kind : FaultKind) (s : State) : State :=
  let t := recordFault kind .station none s
  match severityNow s kind with
  | .note => t
  | .stop => if t.fault.mode = .run then setMode .restricted t else t
  | .shutdown => shutdownAction enterShutdown t

/-- R104, R111: what a bank that has left IN_SERVICE loses: its lane, or the refill run on it. -/
def loseLane (b : Bank) (s : State) : State :=
  match (s.bank b).holder with
  | none => s
  | some .compressor => endRefill .bankOut (some .refillDone) s
  | some (.disp d) => releaseLane d s

/-- R173, bank site at STOP: the bank becomes FAULT and its lane is released. -/
def stopBank (b : Bank) (s : State) : State := loseLane b (faultBank b s)

/-- A fault at a bank, but for what the sessions that lost their lanes do next: the caller resumes them. At SHUTDOWN the
model makes the site action and then the entry, all before the caller resumes, so a run on the bank ends with BANK_OUT and a session
that held its lane with SHUTDOWN (R104, R111, R173; assumption 25). -/
def raiseBank (kind : FaultKind) (b : Bank) (consumer : Option Consumer) (s : State) : State :=
  let t := recordFault kind (.bank b) consumer s
  match severityNow s kind with
  | .note => t
  | .stop => stopBank b t
  | .shutdown => shutdownAction enterShutdown (stopBank b t)

/-- The dispensers that hold the lane of one of these banks. -/
def holdersOf (s : State) (bs : List Bank) : List Disp :=
  Disp.all.filter fun d => bs.any fun b => (s.bank b).holder == some (.disp d)

end Sys2Proof.Machine
end

