-- ==== Sys2Proof/Machine/RampOps.lean ====
section
/-! DEFINITION. The Ramp Engine's checks on a REPORT and on a session's mass, the downgrade of a cold class, the draw, and the
delivery-temperature check (R60 to R72, R85 to R89). -/

namespace Sys2Proof.Machine

/-! ### Ramp start and downgrade -/

/-- The ramp starts afresh from the last hose pressure: at the first entry into FLOWING (R61) and at a re-baseline (R71). -/
def startRamp (d : Disp) (s : State) : State :=
  let t := s.modSess d fun r =>
    { r with rampBaseline := r.hosePressure, rampClock := 0, rampPart := 0, strikes := 0, lagStart := none }
  t.modSess d fun r => { r with lastCeiling := sessionCeiling t d }

inductive DowngradeCause | deliveryTemperature | shortfall
  deriving DecidableEq, Repr

/-- R71: the class a downgrade of a session finds. -/
def downgradeClass (s : State) (d : Disp) : Option ColdClass :=
  let r := s.sess d
  match r.hoseClass, r.band, r.classNow with
  | some h, some band, some c => nextLowerClass s h band c
  | _, _, _ => none

/-- R71: the session moves to a class; a change of class stops the exceedance timer (R89). -/
def moveToClass (d : Disp) (c : ColdClass) (s : State) : State :=
  let rate := match (s.sess d).hoseClass, (s.sess d).band with
    | some h, some band => (s.profile h).cell band c
    | _, _ => 0
  startRamp d (modBilled d (fun r => { r with classNow := some c, aprr := rate, exceedTimer := none }) s)

/-- R71, R72: a downgrade of a session before CLOSING; others are answered as kept. -/
def downgrade (d : Disp) (cause : DowngradeCause) (s : State) : State :=
  if (s.sess d).phase.active then
    match downgradeClass s d with
    | some c => moveToClass d c s
    | none =>
      match cause with
      | .deliveryTemperature => terminate d .precoolLost s
      | .shortfall => s
  else s

/-! ### The draw -/

/-- R85: the states in which the draw applies. -/
def Phase.draws : Phase → Bool
  | .switching | .flowing | .bankWait | .closing => true
  | .idle | .coldWait | .laneWait | .commitWait => false

/-- R86, step 2, and R87: a draw above the reserve sets the flag and asks for a shortfall downgrade. -/
def shortfall (d : Disp) (s : State) : State :=
  downgrade d .shortfall (modBilled d (fun r => { r with coldShortfall := true }) s)

/-- R86: the draw of k kilojoules, at least 1. -/
def drawKilojoules (d : Disp) (k : Nat) (s : State) : State :=
  let t := s.modSess d fun r => { r with claim := r.claim - k }
  let t := if s.cold.reserve < k then shortfall d t else t
  trimClaims (t.modCold fun c => { c with reserve := c.reserve - k })

/-- R85, R86: the draw of an increase of grams. -/
def drawMass (d : Disp) (grams : Nat) (s : State) : State :=
  let r := s.sess d
  let load := optCode (loadOf s.cold.config) r.classNow
  if r.phase.draws && load != 0 then
    let acc := r.drawAcc + grams * load
    let t := s.modSess d fun r => { r with drawAcc := acc % 1000 }
    if acc / 1000 = 0 then t else drawKilojoules d (acc / 1000) t
  else s

/-! ### The delivery-temperature check -/

/-- R89: the Cold Reserve Unit's check of a REPORT. -/
def deliveryCheck (d : Disp) (s : State) : State :=
  let r := s.sess d
  match r.phase.active && r.checkActive, r.classNow.bind (limitOf s.cold.config), r.hoseTemperature with
  | true, some limit, some temp =>
    if limit < temp then
      s.modSess d fun r => { r with exceedTimer := some (r.exceedTimer.getD 30000) }
    else s.modSess d fun r => { r with exceedTimer := none }
  | _, _, _ => s

/-! ### The steps of R63 -/

/-- Step 1 (R64): the pressure limit. -/
def checkPressureLimit (d : Disp) (s : State) : State :=
  let r := s.sess d
  match r.hoseClass with
  | some h => if r.phase != .idle && decide (hoseLimit h < r.hosePressure) then raiseDisp .pressureLimit d s else s
  | none => s

/-- A step that applies in FLOWING alone. -/
def inFlow (d : Disp) (f : State → State) (s : State) : State := if (s.sess d).phase = .flowing then f s else s

/-- Step 2 (R65): a strike above the last ceiling, the second of which raises RAMP_OVER. -/
def checkRampOver (d : Disp) (s : State) : State :=
  let r := s.sess d
  if r.lastCeiling < r.hosePressure then
    if r.strikes = 0 then s.modSess d fun r => { r with strikes := 1 } else raiseDisp .rampOver d s
  else s.modSess d fun r => { r with strikes := 0 }

/-- Step 3 (R66): tank hot, for a REPORT that carries tank data. -/
def checkTankHot (d : Disp) (tankData : Bool) (s : State) : State :=
  match (s.sess d).vehicle with
  | some v => if tankData && decide (850 ≤ v.temperature) then terminate d .tankHot s else s
  | none => s

/-- Step 4 (R67): a REPORT without tank data while the lapsed mark is set makes a COMM fill NON_COMM. -/
def commFallback (d : Disp) (tankData : Bool) (s : State) : State :=
  let r := s.sess d
  if r.fillKind = some .comm && r.tankLapsed && !tankData then
    modBilled d (fun r => { r with fillKind := some .nonComm, tankTimer := none }) s
  else s

/-- Step 5 (R68): the end tests. -/
def endTests (d : Disp) (s : State) : State :=
  let r := s.sess d
  match r.hoseClass with
  | none => s
  | some h =>
    if r.fillKind = some .comm then
      match stateOfCharge s d with
      | some soc => if (s.profile h).targetSoc ≤ soc then terminate d .targetSoc s else s
      | none => s
    else if (s.profile h).target (r.band.getD 0) ≤ r.hosePressure then terminate d .targetPressure s
    else s

/-- Step 6 (R62): the new ceiling. -/
def newCeiling (d : Disp) (s : State) : State := s.modSess d fun r => { r with lastCeiling := sessionCeiling s d }

/-- Step 7 (R69): ramp lag against the new target. -/
def checkRampLag (d : Disp) (s : State) : State :=
  let r := s.sess d
  match r.hoseClass with
  | none => s
  | some h =>
    if (r.hosePressure : Int) < (pressureTarget r.rampBaseline r.aprr r.rampClock : Int) - (s.profile h).dpLow then
      match r.lagStart with
      | none => s.modSess d fun r => { r with lagStart := some r.rampClock }
      | some c =>
        if c + 100 ≤ r.rampClock then
          addDispEvent d .rampLag (s.modSess d fun r => { r with lagStart := some r.rampClock })
        else s
    else s.modSess d fun r => { r with lagStart := none }

/-- R63: the Ramp Engine's work on a REPORT, its values already stored. -/
def rampReport (d : Disp) (tankData : Bool) (s : State) : State :=
  let s := checkPressureLimit d s
  let s := inFlow d (checkRampOver d) s
  let s := inFlow d (checkTankHot d tankData) s
  let s := inFlow d (commFallback d tankData) s
  let s := inFlow d (endTests d) s
  let s := inFlow d (newCeiling d) s
  inFlow d (checkRampLag d) s

/-! ### The Lane Arbiter's part of a REPORT -/

/-- R101: the switch criterion of a session against its current bank. -/
def switchMet (s : State) (d : Disp) : Bool :=
  let r := s.sess d
  match r.currentBank with
  | some b => r.phase == .flowing &&
      decide (((s.bank b).pressure : Int) - r.hosePressure < s.lane.settings.dpSwitch)
  | none => false

/-- R34, third hand-off: the switch criterion for a session in FLOWING; the arbiter pass for one on the wait list (R100). -/
def laneReport (d : Disp) (s : State) : State :=
  if switchMet s d then resumeAfterRelease [d] (releaseLane d s)
  else if s.lane.waitList.any (fun w => w.disp == d) then arbiterPass s
  else s

end Sys2Proof.Machine
end

