-- ==== Sys2Proof/Machine/Replies.lean ====
section
/-! DEFINITION. The payloads of replies: each command's values in the order of its description, in the encodings of R192. -/

namespace Sys2Proof.Machine

/-! ### Building blocks -/

def ok (payload : List Val) : Reply := { status := .ok, payload := payload }

def refuse (st : Status) : Reply := { status := st, payload := [] }

/-- A refusal with the reason or position its description names (R194). -/
def refuseWith (st : Status) (payload : List Val) : Reply := { status := st, payload := payload }

def flagVal (b : Bool) : Val := .byte (flagCode b)

/-- A dispenser is carried as a number (assumption 29). -/
def dispVal (d : Disp) : Val := .num d.toNat

def bankVal (b : Bank) : Val := .num b.toNat

def phaseVal (p : Phase) : Val := .byte (phaseCode p)

/-- R192: an optional value behind its presence byte. -/
def optVal {α : Type} (f : α → List Val) : Option α → List Val
  | none => [.present false]
  | some x => .present true :: f x

def optNum : Option Nat → List Val := optVal fun n => [.num n]

def optByte {α : Type} (f : α → Nat) : Option α → List Val := optVal fun x => [.byte (f x)]

/-- R192: a list behind its count. -/
def listVal {α : Type} (f : α → List Val) (xs : List α) : List Val := .byte xs.length :: xs.flatMap f

/-- R39: a timer as running or stopped and, if running, the time left. That the timers of the other reads have this form too is a
choice of the model (assumption 32). -/
def timerVal : Option Nat → List Val
  | none => [flagVal false]
  | some t => [flagVal true, .num t]

/-! ### Inventory Unit -/

/-- R1, R2, R22: a bank entry, its fields in the order of R1. -/
def bankEntryVals (e : BankEntry) : List Val :=
  [flagVal e.configured, .num e.volume, .num e.rated, .num e.tier, .byte (bit e.servesH70 1 + bit e.servesH35 2),
   .num e.refillStart, .num e.refillStop, .byte (serviceCode e.service), flagVal e.fresh, .num e.pressure,
   .int e.temperature, .num e.reportTime, .num e.density, .num e.inventory, .byte (holderCode e.holder)] ++
  optNum e.requestTime

/-- R22. -/
def readBanksVals (s : State) : List Val :=
  Bank.all.flatMap (fun b => bankEntryVals (s.bank b)) ++
  [.byte (bankSetCode s.inv.isolation), .byte (tableStateCode s.inv.table.state)] ++
  optNum s.inv.table.refH70 ++ optNum s.inv.table.refH35 ++
  [.int s.inv.ambient.temperature, .num s.inv.ambient.time, flagVal s.inv.ambient.fresh] ++
  timerVal s.inv.ambient.staleTimer ++
  [.byte (compressorCode s.inv.compressor.state), .num s.inv.compressor.time]

/-! ### Session Units -/

/-- R24's table, in order, but for the bank-use list, the vehicle record and the fill trace, which R39 names again after it; then the
three fields that R59 keeps beside the record (assumption 34). -/
def sessionVals (r : Session) : List Val :=
  [phaseVal r.phase] ++ optNum r.authNumber ++ optByte hoseClassCode r.hoseClass ++ optByte fillKindCode r.fillKind ++
  optNum r.band ++ optByte coldClassCode r.classAtStart ++ optByte coldClassCode r.classNow ++
  [.num r.claim, .num r.drawAcc] ++ optNum r.stamp ++
  [.num r.rampBaseline, .num r.rampClock, .num r.aprr, .num r.lastCeiling] ++ optVal (fun b => [bankVal b]) r.currentBank ++
  [.num r.pulses, .num r.k, .num r.metrology, .num r.mass, .num r.budget, flagVal r.flowBegun, .num r.hosePressure] ++
  optVal (fun t => [.int t]) r.hoseTemperature ++
  timerVal r.supervision ++ timerVal r.waitTimer ++ timerVal r.settleTimer ++ timerVal r.graceTimer ++
  timerVal r.exceedTimer ++
  [.num r.strikes, flagVal r.revokeOnClose, flagVal r.coldShortfall, .num r.startTime] ++ optNum r.endTime ++
  [flagVal r.timeUnset] ++ optByte (fun x => reasonCode x - 1) r.reason ++
  optNum r.lagStart ++ timerVal r.tankTimer ++ [flagVal r.tankLapsed]

/-- R39. The bank-use list, the vehicle record and the fill trace stand once, after the fields of R24 and R59, a choice of the model
(assumption 34). -/
def readSessionVals (s : State) (d : Disp) : List Val :=
  let u := s.unit.get d
  let r := u.sess
  sessionVals r ++
  listVal (fun b => [bankVal b.bank, .num b.massAtGrant, .num b.drawn, .num b.inventoryAtGrant]) r.bankUse ++
  optVal (fun v => [.num v.volume, .num v.pressure, .int v.temperature, .num v.time]) r.vehicle ++
  listVal (fun x => [.num x.clock, .num x.pressure, .int x.temperature]) r.trace ++
  [flagVal u.nozzleOn, flagVal (s.fault.locked.get d), flagVal u.held] ++ optByte hoseClassCode u.hoseClass ++
  [.num u.interval]

/-- R31: the reply of an accepted NOZZLE_ON. -/
def nozzleOnVals (s : State) (d : Disp) : List Val :=
  let r := s.sess d
  [phaseVal r.phase, .num (r.authNumber.getD 0), .num r.budget, .byte (optCode fillKindCode r.fillKind)]

/-- R35: the ceiling of a REPORT reply. -/
def replyCeiling (r : Session) : Nat :=
  match r.phase with
  | .switching | .flowing | .bankWait => r.lastCeiling
  | .idle | .coldWait | .laneWait | .closing | .commitWait => 0

/-- R35, R140: the display amount; 0 while the mass is 0. -/
def displayAmount (s : State) (d : Disp) : Nat :=
  match boundEntry s d with
  | some e => billedAmount (s.sess d).mass e.price e.limit
  | none => 0

/-- R35: the SOC of a REPORT reply; absent for a NON_COMM session. -/
def replySoc (s : State) (d : Disp) : Option Nat :=
  if (s.sess d).fillKind = some .comm then stateOfCharge s d else none

/-- R35. -/
def reportVals (s : State) (d : Disp) : List Val :=
  let r := s.sess d
  [phaseVal r.phase] ++ optNum (some (replyCeiling r)) ++ [.num r.mass] ++ optNum (some (displayAmount s d)) ++
  optNum (replySoc s d)

/-- R33: the reply to a REPORT in IDLE. -/
def reportIdleVals : List Val :=
  [phaseVal .idle] ++ optNum none ++ [.num 0] ++ optNum none ++ optNum none

/-! ### Ramp Engine -/

/-- R56: the profile as held: its state and its fields in payload order. -/
def profileVals (p : Profile) : List Val :=
  [flagVal p.valid, .num p.dpUp, .num p.dpLow, .num p.targetSoc, .num p.nominalMass] ++
  p.bands.flatMap (fun r => [.num r.a, .num r.b, .num r.c, .num r.n]) ++ p.bands.map fun r => .num r.target

/-! ### Cold Reserve Unit -/

def coldConfigVals (c : ColdConfig) : List Val :=
  [.num c.capacity, .num c.loadA, .num c.loadB, .num c.loadC, .int c.limitA, .int c.limitB, .int c.limitC]

/-- R76. Claim and class stand session by session (assumption 32). -/
def coldVals (s : State) : List Val :=
  coldConfigVals s.cold.config ++ [.num s.cold.reserve, .num (claimSum s), .num (availableCold s)] ++
  Disp.all.flatMap (fun d => .num (s.sess d).claim :: optByte coldClassCode (s.sess d).classNow) ++
  listVal (fun d => [dispVal d]) s.cold.queue ++
  [flagVal s.cold.chiller.running, .num s.cold.chiller.rate, .num s.cold.chiller.time, flagVal s.cold.chiller.fresh] ++
  timerVal s.cold.chiller.staleTimer

/-! ### Lane Arbiter -/

def laneSettingsVals (x : LaneSettings) : List Val :=
  [.num x.switchTime, .num x.dpStart, .num x.dpSwitch, .num x.yieldTime]

/-- R108. -/
def refillVals (r : RefillRecord) : List Val :=
  [.byte (refillStateCode r.state)] ++ optVal (fun b => [bankVal b]) r.bank ++ optNum r.requestTime ++
  optVal (fun o => [bankVal o.bank, .byte (endReasonCode o.reason)]) r.outcome

/-- R199, Lane Arbiter. The thirty route valves stand bank by bank from B0 and, within a bank, D0 to D3 and then the compressor, one byte
each, a choice of the model (assumption 32). R199 gives the deferred refill list no order; the reply has it in the order of joining, a choice of the model
(assumption 31). -/
def laneVals (s : State) : List Val :=
  Bank.all.map (fun b => .byte (holderCode (s.bank b).holder)) ++
  Bank.all.flatMap (fun b => (s.lane.valves.get b).toList.map flagVal) ++
  laneSettingsVals s.lane.settings ++
  listVal (fun w => [dispVal w.disp, .num w.joined, flagVal w.due]) s.lane.waitList ++
  listVal (fun b => [bankVal b]) s.lane.refillQueue ++
  listVal (fun x => [bankVal x.bank, .num x.time]) s.lane.deferred ++
  refillVals s.lane.refill

/-! ### Meter Unit -/

/-- R199, Meter Unit. The calibration window is its count as an optional value, absent while the window is closed, a choice of the
model (assumption 32). -/
def meterVals (s : State) : List Val :=
  s.meter.factor.toList.map .num ++ [.num s.meter.metrology] ++
  optVal (fun c => [dispVal c.disp, .num c.oldFactor, .num c.newFactor, .num c.counter, .num c.time, flagVal c.recorded])
    s.meter.change ++
  s.log.retained.totalizers.toList.map .num ++ s.meter.unaccounted.toList.map .num ++
  [flagVal s.meter.calSwitch] ++ optNum (if s.meter.window = 0 then none else some s.meter.window)

/-! ### Authorization Table -/

/-- R132, R149: an entry, its fields in the order of R132. -/
def authEntryVals (e : AuthEntry) : List Val :=
  [.num e.number, dispVal e.disp, .byte (authKindCode e.kind), .num e.account, .num e.group, .num e.line, .num e.price,
   .num e.limit] ++ optNum e.preset ++ [.num e.budget] ++ optNum e.vehicles ++ [.num e.expiry] ++ timerVal e.timer ++
  [.byte (if e.bound then 1 else 0), flagVal e.revokeOnClose]

/-- R149, without an authorization number. While no revocation is in progress its record is the one byte that says so, a choice of
the model (assumption 32). -/
def readAuthVals (s : State) : List Val :=
  listVal authEntryVals s.auth.entries ++ s.auth.tariffs.flatMap optNum ++ [.num s.auth.lastNumber] ++
  match s.auth.revocation with
  | none => [flagVal false]
  | some r => [flagVal true, .byte (revokeModeCode r.mode), .byte (scopeCode r.scope), .byte (dispSetCode r.outstanding)]

/-! ### Log Controller -/

/-- The kind of a queued entry as a value from the list of R151, a sale record or a calibration record. That R165 means this list and not
the kinds 1 and 2 of the record layouts (R159, R160) is a choice of the model (assumption 30). -/
def recordKindCode : LogRecord → Nat
  | .sale _ => 0 | .cal _ => 1

def queueEntryVals (e : QueueEntry) : List Val :=
  [.byte (recordKindCode e.record), .byte (sourceCode e.source)] ++ optVal (fun d => [dispVal d]) e.source.disp?

/-- R152, R165: the operation state and, in COMMITTING and ERASING alone, its number, a choice of the model (assumption 32). -/
def arrayOpVals : ArrayOp → List Val
  | .idle => [.byte 0]
  | .committing _ _ seq => [.byte 1, .num seq]
  | .erasing b => [.byte 2, .num b]

/-- R165. What is given for each dispenser stands dispenser by dispenser (assumption 32). -/
def logStatusVals (s : State) : List Val :=
  let l := s.log
  let position := l.view.bind fun v => v.newest.map fun _ => v.writePos
  optNum (l.view.map (·.erased)) ++ [.num l.reserved, .num (freeSlots s)] ++ optNum (l.view.bind (·.oldest)) ++
  optNum (l.view.bind (·.newest)) ++ optNum position ++ arrayOpVals l.op ++ listVal queueEntryVals l.queue ++
  [.num l.offers.length, .num l.retained.release, .num l.delivered, .num l.cursor, flagVal l.stream,
   flagVal l.retained.marker] ++
  Disp.all.flatMap (fun d =>
    flagVal (l.retained.slots.get d).isSome :: optNum ((l.retained.slots.get d).bind (·.committing))) ++
  [flagVal l.recovering]

/-! ### Fault Monitor -/

/-- R179: a counter's selection; 0 is NONE. -/
def selectionVal (k : Option FaultKind) : Val := .byte (optCode faultCode k)

/-- R180. -/
def readFaultsVals (s : State) : List Val :=
  let f := s.fault
  faultKinds.map (fun k => .byte (severityCode (f.severity.get k))) ++
  [.raw (contextBytes f.firstSevere), .raw (contextBytes f.firstNote), .kinds (kindSetCode f.nextSevere),
   .kinds (kindSetCode f.nextNote)] ++
  f.counters.flatMap (fun c => [selectionVal c.sel, .num c.value]) ++
  [.byte (modeCode f.mode), flagVal f.demand, flagVal f.esdArmed, flagVal f.esdActive] ++
  f.locked.toList.map flagVal

/-! ### Port Interface -/

/-- R199, station and dispensers. -/
def stationVals (s : State) : List Val :=
  [.byte (modeCode s.fault.mode), flagVal s.fault.demand, flagVal s.fault.esdArmed, flagVal s.fault.esdActive,
   .num s.port.clock, flagVal s.port.clockSet, .num s.port.stationId, flagVal s.port.idWritten]

def dispStatusVals (s : State) (d : Disp) : List Val :=
  let u := s.unit.get d
  [phaseVal u.sess.phase, flagVal u.nozzleOn, flagVal (s.fault.locked.get d), flagVal u.held] ++
  optByte hoseClassCode u.hoseClass ++ [.num u.interval, .num s.settleTime]

/-- R199. -/
def readStatusVals (s : State) : List Val :=
  stationVals s ++ Disp.all.flatMap (dispStatusVals s) ++
  [flagVal s.ramp.h70.valid, flagVal s.ramp.h35.valid, .byte (tableStateCode s.inv.table.state)] ++
  coldVals s ++ laneVals s ++ meterVals s ++
  Disp.all.map (fun d => .byte (eventCode (.disp d) s)) ++ [.byte (eventCode .plant s), .byte (eventCode .sales s)]

end Sys2Proof.Machine
end

