-- ==== Sys2Proof/Machine/Request.lean ====
section
/-! DEFINITION. What every request has in common: the port's role, the stream mode, the reply slot and the calibration window's
count (R124, R163, R191, R193); and what every other event has in common: it needs main power. -/

namespace Sys2Proof.Machine

/-! ### Roles (R191, and the catalogue after R199) -/

def onDisp : Port → Bool
  | .disp _ => true | .plant => false | .sales => false

def onPlant : Port → Bool
  | .disp _ => false | .plant => true | .sales => false

def onSales : Port → Bool
  | .disp _ => false | .plant => false | .sales => true

def onPlantOrSales : Port → Bool
  | .disp _ => false | .plant => true | .sales => true

def onAny : Port → Bool
  | .disp _ => true | .plant => true | .sales => true

/-! ### The parts of a frame end -/

/-- R191: the reply slot is replaced. -/
def placeReply (p : Port) (r : Reply) (s : State) : State :=
  s.modPort fun u => { u with slots := u.slots.set p r }

/-- R163: a request on the sales port turns stream mode off. -/
def endStream (p : Port) (s : State) : State :=
  match p with
  | .sales => s.modLog fun l => { l with stream := false }
  | .disp _ => s
  | .plant => s

/-- R124: a request on the plant port counts toward an open window. -/
def countRequest (p : Port) (s : State) : State :=
  match p with
  | .plant => if s.meter.window = 0 then s else setWindow (s.meter.window - 1) s
  | .disp _ => s
  | .sales => s

/-- A request on the part while it has main power: before, what it does to the stream mode; body, the command itself, with its
reply; after, what it does to the calibration window. -/
def requestWith (before after : State → State) (p : Port) (allowed : Port → Bool) (body : State → State × Reply)
    (s : State) : State :=
  if s.powered then
    let t := before s
    let out := if allowed p then body t else (t, refuse .wrongPort)
    after (placeReply p out.2 out.1)
  else s

/-- A request like most: it ends stream mode on the sales port and counts on the plant port. -/
def request (p : Port) (allowed : Port → Bool) (body : State → State × Reply) (s : State) : State :=
  requestWith (endStream p) (countRequest p) p allowed body s

/-- A command whose payload is not in the form stated is refused BAD_VALUE (R194, assumption 5). -/
def withArgs {α : Type} (a : Option α) (f : α → State → State × Reply) (s : State) : State × Reply :=
  match a with
  | none => (s, refuse .badValue)
  | some x => f x s

/-- A command of a dispenser's own controller acts on that dispenser (R30 to R38). -/
def withDisp (p : Port) (f : Disp → State → State × Reply) (s : State) : State × Reply :=
  match p with
  | .disp d => f d s
  | .plant => (s, refuse .wrongPort)
  | .sales => (s, refuse .wrongPort)

/-- An event at the part takes effect while main power is applied (assumption 6). -/
def event (f : State → State) (s : State) : State := if s.powered then f s else s

end Sys2Proof.Machine
end

