-- ==== Sys2Proof/Machine/AuthCommands.lean ====
section
/-! DEFINITION. The Authorization Table's commands and expiry timers (R129 to R149). -/

namespace Sys2Proof.Machine

/-! ### Tariff lines (R130, R131) -/

def setLine (n : Nat) (x : Option Nat) (s : State) : State := s.modAuth fun a => { a with tariffs := a.tariffs.set n x }

/-- R130. The reply carries the line as its number and its price behind a presence byte (assumption 16). -/
def setPrice (a : PriceArgs) (s : State) : State × Reply :=
  if 7 < a.line ∨ a.price < 1 ∨ 100000 < a.price then (s, refuse .badValue)
  else (setLine a.line (some a.price) s, ok (.num a.line :: optNum (some a.price)))

def execSetPrice (p : Port) (a : Option PriceArgs) (s : State) : Host.Outcome State Fault Refusal :=
  .next (request p onSales (withArgs a setPrice) s)

def clearPrice (n : Nat) (s : State) : State × Reply :=
  if 7 < n then (s, refuse .badValue) else (setLine n none s, ok [])

def execClearPrice (p : Port) (a : Option Nat) (s : State) : Host.Outcome State Fault Refusal :=
  .next (request p onSales (withArgs a clearPrice) s)

/-! ### AUTHORIZE (R133 to R136) -/

/-- R133, first check, but for the kind and the dispenser. -/
def authInRange (a : AuthorizeArgs) : Bool :=
  decide (a.account ≤ maxWord) && decide (a.group ≤ 255) && decide (a.line ≤ 7) && decide (1 ≤ a.limit) &&
  decide (a.limit ≤ 10000000) && decide (10 ≤ a.expiry) && decide (a.expiry ≤ 3600) &&
  (match a.preset with
   | none => true
   | some m => decide (1 ≤ m) && decide (m ≤ 1000000))

/-- R133, first check: a vehicle count with FLEET_RUN and not with SINGLE. -/
def vehiclesFit (kind : AuthKind) (vehicles : Option Nat) : Bool :=
  match kind, vehicles with
  | .single, none => true
  | .single, some _ => false
  | .fleetRun, none => false
  | .fleetRun, some n => decide (1 ≤ n) && decide (n ≤ 255)

/-- R132: an entry of a dispenser, PENDING or BOUND. -/
def hasEntry (s : State) (d : Disp) : Bool := s.auth.entries.any fun e => e.disp == d

/-- R134. -/
def newEntry (a : AuthorizeArgs) (d : Disp) (kind : AuthKind) (price number : Nat) : AuthEntry :=
  { number := number, disp := d, kind := kind, account := a.account, group := a.group, line := a.line, price := price,
    limit := a.limit, preset := a.preset, budget := budgetOf a.limit price a.preset, vehicles := a.vehicles,
    expiry := a.expiry, timer := some (a.expiry * 1000), bound := false, revokeOnClose := false }

/-- R134, R135: the entry takes its place, and AUTH_READY is added. -/
def addEntry (e : AuthEntry) (s : State) : State :=
  addDispEvent e.disp .authReady (s.modAuth fun t => { t with entries := insertEntry e t.entries, lastNumber := e.number })

/-- R133, third to fifth check, and R134. -/
def authorizeChecked (a : AuthorizeArgs) (d : Disp) (kind : AuthKind) (s : State) : State × Reply :=
  if hasEntry s d then (s, refuse .notAllowed)
  else
    match (s.auth.tariffs[a.line]?).join with
    | none => (s, refuse .badValue)
    | some price =>
      if 16 ≤ s.auth.entries.length then (s, refuse .busy)
      else
        let e := newEntry a d kind price (nextNumber s.auth)
        (addEntry e s, ok [.num e.number, .num price, .num e.budget])

def authorize (a : AuthorizeArgs) (s : State) : State × Reply :=
  match Disp.ofNat? a.disp, authKindOf a.kind with
  | some d, some kind =>
    if !(authInRange a && vehiclesFit kind a.vehicles) then (s, refuse .badValue)
    else if kind = .fleetRun ∧ a.group = 0 then (s, refuse .badValue)
    else authorizeChecked a d kind s
  | _, _ => (s, refuse .badValue)

def execAuthorize (p : Port) (a : Option AuthorizeArgs) (s : State) : Host.Outcome State Fault Refusal :=
  .next (request p onSales (withArgs a authorize) s)

/-! ### CANCEL_AUTH (R138) and expiry (R137) -/

def cancelAuth (n : Nat) (s : State) : State × Reply :=
  match findEntry s n with
  | none => (s, refuse .notFound)
  | some e => if e.bound then (s, refuse .busy) else (freeEntry n s, ok [])

def execCancelAuth (p : Port) (a : Option Nat) (s : State) : Host.Outcome State Fault Refusal :=
  .next (request p onSales (withArgs a cancelAuth) s)

def authExpired (n : Nat) (s : State) : State :=
  match findEntry s n with
  | none => s
  | some e => if e.timer.isSome && !e.bound then addSalesEvent .authExpired (freeEntry n s) else s

def execAuthExpiry (number : Nat) (s : State) : Host.Outcome State Fault Refusal := .next (event (authExpired number) s)

/-! ### REVOKE (R144 to R147) -/

/-- R144: whether a request matches an entry. -/
def revokeMatches (a : RevokeArgs) (e : AuthEntry) : Bool :=
  match a.scope with
  | 0 => true
  | 1 => a.value != 0 && e.group == a.value
  | 2 => e.account == a.value
  | 3 => e.number == a.value
  | _ => false

/-- R144: the requested scope. -/
def scopeOf : Nat → RevokeScope
  | 0 => .all | 1 => .fleet | 2 => .account | 3 => .entry | _ => .none

/-- R145, R146: a matching BOUND entry and its session are marked. -/
def markEntry (s : State) (e : AuthEntry) : State :=
  (modEntry e.number (fun x => { x with revokeOnClose := true }) s).modSess e.disp fun r => { r with revokeOnClose := true }

/-- R145, R146: what a REVOKE does to the entries it matched. -/
def applyRevoke (mode : RevokeMode) (pend bound : List AuthEntry) (s : State) : State :=
  let t := pend.foldl (fun x e => freeEntry e.number x) s
  let t := bound.foldl markEntry t
  match mode with
  | .drain => t
  | .immediate => terminateAll (Disp.all.filter fun d => bound.any fun e => e.disp == d) .revoked t

/-- R146, R147: the dispensers whose sessions a revocation waits for. -/
def outstandingOf (bound : List AuthEntry) (s : State) : List Disp :=
  Disp.all.filter fun d => (bound.any fun e => e.disp == d) && (s.sess d).phase != .idle

/-- R147: the revocation in progress, or REVOKE_DONE at once. -/
def recordRevocation (mode : RevokeMode) (scope : RevokeScope) (out : List Disp) (s : State) : State :=
  if out.isEmpty then addSalesEvent .revokeDone s
  else s.modAuth fun a =>
    { a with
      revocation := some
        { mode := mode, scope := scope, outstanding := out.foldl (fun v d => v.set d true) (.same false) } }

def revoke (a : RevokeArgs) (s : State) : State × Reply :=
  match revokeModeOf a.mode with
  | none => (s, refuse .badValue)
  | some mode =>
    if s.auth.revocation.isSome then (s, refuse .busy)
    else
      let hit := s.auth.entries.filter (revokeMatches a)
      let pend := hit.filter fun e => !e.bound
      let bound := hit.filter fun e => e.bound
      let scope := if hit.isEmpty then .none else scopeOf a.scope
      let t := applyRevoke mode pend bound s
      let out := outstandingOf bound t
      let freed := pend.length + (bound.length - out.length)
      (recordRevocation mode scope out t,
       ok [.byte (scopeCode scope), .num freed, .num bound.length, flagVal (!out.isEmpty)])

def execRevoke (p : Port) (a : Option RevokeArgs) (s : State) : Host.Outcome State Fault Refusal :=
  .next (request p onSales (withArgs a revoke) s)

/-! ### READ_AUTH (R149) -/

def readAuth (n : Option Nat) (s : State) : State × Reply :=
  match n with
  | none => (s, ok (readAuthVals s))
  | some n =>
    match findEntry s n with
    | none => (s, refuse .notFound)
    | some e => (s, ok (authEntryVals e))

def execReadAuth (p : Port) (a : Option (Option Nat)) (s : State) : Host.Outcome State Fault Refusal :=
  .next (request p onPlantOrSales (withArgs a readAuth) s)

end Sys2Proof.Machine
end

