-- ==== Sys2Proof/Machine/ColdCommands.lean ====
section
/-! DEFINITION. The Cold Reserve Unit's commands and timers (R77, R78, R80, R81). -/

namespace Sys2Proof.Machine

/-! ### COLD_CONFIG and COLD_SET -/

def limitOut (t : Int) : Bool := decide (t < -500) || decide (0 < t)

/-- R77: the first check that fails, as its reason and, for RANGE, the first field out of range in payload order
(assumption 28). -/
def coldConfigFailure (a : ColdConfigArgs) : Option (List Val) :=
  if 4000000 < a.capacity then some [.byte 0, .byte 0]
  else if 3000 < a.loadA then some [.byte 0, .byte 1]
  else if 3000 < a.loadB then some [.byte 0, .byte 2]
  else if 3000 < a.loadC then some [.byte 0, .byte 3]
  else if limitOut a.limitA then some [.byte 0, .byte 4]
  else if limitOut a.limitB then some [.byte 0, .byte 5]
  else if limitOut a.limitC then some [.byte 0, .byte 6]
  else if a.loadA < a.loadB ∨ a.loadB < a.loadC then some [.byte 1]
  else if a.limitB ≤ a.limitA ∨ a.limitC ≤ a.limitB then some [.byte 2]
  else none

def coldConfigOf (a : ColdConfigArgs) : ColdConfig :=
  { capacity := a.capacity, loadA := a.loadA, loadB := a.loadB, loadC := a.loadC, limitA := a.limitA, limitB := a.limitB,
    limitC := a.limitC }

def coldConfig (a : ColdConfigArgs) (s : State) : State × Reply :=
  match coldConfigFailure a with
  | some x => (s, refuseWith .badValue x)
  | none =>
    let t := tryAdmission <| trimClaims <| s.modCold fun c =>
      { c with config := coldConfigOf a, reserve := min c.reserve a.capacity }
    (t, ok (coldConfigVals t.cold.config ++ [.num t.cold.reserve]))

def execColdConfig (p : Port) (a : Option ColdConfigArgs) (s : State) : Host.Outcome State Fault Refusal :=
  .next (request p onPlant (withArgs a coldConfig) s)

def coldSet (n : Nat) (s : State) : State × Reply :=
  if 4000000 < n then (s, refuse .badValue)
  else
    let r := min n s.cold.config.capacity
    (tryAdmission (trimClaims (s.modCold fun c => { c with reserve := r })), ok [.num r])

def execColdSet (p : Port) (a : Option Nat) (s : State) : Host.Outcome State Fault Refusal :=
  .next (request p onPlant (withArgs a coldSet) s)

/-! ### The chiller and the recharge -/

/-- R80: the rate recorded by a report, or none where the report is refused. -/
def chillerRate (running : Bool) (rate : Option Nat) : Option Nat :=
  match running, rate with
  | true, none => none
  | true, some r => if 5000 < r then none else some r
  | false, none => some 0
  | false, some r => if 5000 < r then none else some 0

def chillerReport (a : ChillerArgs) (s : State) : State × Reply :=
  match chillerStateOf a.state with
  | none => (s, refuse .badValue)
  | some running =>
    match chillerRate running a.rate with
    | none => (s, refuse .badValue)
    | some r =>
      (s.modCold fun c =>
        { c with chiller :=
          { running := running, rate := r, time := s.port.clock, fresh := true, staleTimer := some 10000 } }, ok [])

def execChillerReport (p : Port) (a : Option ChillerArgs) (s : State) : Host.Outcome State Fault Refusal :=
  .next (request p onPlant (withArgs a chillerReport) s)

/-- R80: a STALE record; no fault. -/
def chillerStale (s : State) : State :=
  if s.cold.chiller.staleTimer.isSome then
    s.modCold fun c => { c with chiller := { c.chiller with fresh := false, staleTimer := none } }
  else s

def execChillerStalenessExpiry (s : State) : Host.Outcome State Fault Refusal := .next (event chillerStale s)

/-- R81: what a recharge step makes of the reserve. -/
def ColdReserve.recharged (c : ColdReserve) : ColdReserve :=
  { c with
    rechargeTimer := 1000,
    reserve := if c.chiller.fresh && c.chiller.running then min (c.reserve + c.chiller.rate) c.config.capacity
      else c.reserve }

def rechargeStep (s : State) : State := tryAdmission (s.modCold ColdReserve.recharged)

def execRechargeStep (s : State) : Host.Outcome State Fault Refusal := .next (event rechargeStep s)

end Sys2Proof.Machine
end

