-- ==== Sys2Proof/Machine/FaultCommands.lean ====
section
/-! DEFINITION. The Fault Monitor's commands and the ESD input (R172, R177 to R180, R186 to R190). -/

namespace Sys2Proof.Machine

/-- R172: the level taken, never below the kind's least severity. -/
def levelTaken (k : FaultKind) (x : Severity) : Severity :=
  if severityCode x < severityCode (leastSeverity k) then leastSeverity k else x

def setSeverity (a : SeverityArgs) (s : State) : State × Reply :=
  match faultKindOf a.kind, severityOf a.level with
  | some k, some x =>
    (s.modFault fun f => { f with severity := f.severity.set k (levelTaken k x) },
     ok [.byte (faultCode k), .byte (severityCode (levelTaken k x))])
  | _, _ => (s, refuse .badValue)

def execSetSeverity (p : Port) (a : Option SeverityArgs) (s : State) : Host.Outcome State Fault Refusal :=
  .next (request p onPlant (withArgs a setSeverity) s)

/-- R177. -/
def clearFaults (n : Nat) (s : State) : State × Reply :=
  match n with
  | 0 =>
    (s.modFault fun f => { f with firstSevere := none, nextSevere := .same false },
     ok [.raw (contextBytes s.fault.firstSevere), .kinds (kindSetCode s.fault.nextSevere)])
  | 1 =>
    (s.modFault fun f => { f with firstNote := none, nextNote := .same false },
     ok [.raw (contextBytes s.fault.firstNote), .kinds (kindSetCode s.fault.nextNote)])
  | _ => (s, refuse .badValue)

def execClearFaults (p : Port) (a : Option Nat) (s : State) : Host.Outcome State Fault Refusal :=
  .next (request p onPlant (withArgs a clearFaults) s)

/-- R179: the reply carries the selection and the value before the command (assumption 33). -/
def countSelect (a : CountSelectArgs) (s : State) : State × Reply :=
  match s.fault.counters[a.counter]?, counterSelOf a.kind with
  | some c, some k =>
    (s.modFault fun f => { f with counters := f.counters.set a.counter { sel := k, value := 0 } },
     ok [selectionVal c.sel, .num c.value])
  | _, _ => (s, refuse .badValue)

def execCountSelect (p : Port) (a : Option CountSelectArgs) (s : State) : Host.Outcome State Fault Refusal :=
  .next (request p onPlant (withArgs a countSelect) s)

def execReadFaults (p : Port) (s : State) : Host.Outcome State Fault Refusal :=
  .next (request p onPlantOrSales (fun s => (s, ok (readFaultsVals s))) s)

/-- R187. -/
def armEsd (s : State) : State × Reply :=
  let reply := ok [flagVal true, flagVal s.fault.esdActive]
  if s.fault.esdArmed then (s, reply)
  else
    let t := s.modFault fun f => { f with esdArmed := true }
    (if s.fault.esdActive then raiseStation .esdInput t else t, reply)

def execArmEsd (p : Port) (s : State) : Host.Outcome State Fault Refusal := .next (request p onPlant armEsd s)

/-- R187: a change of the input; a change to active with the latch armed raises ESD_INPUT. -/
def esdChanged (active : Bool) (s : State) : State :=
  let t := s.modFault fun f => { f with esdActive := active }
  if active && !s.fault.esdActive && s.fault.esdArmed then raiseStation .esdInput t else t

/-- Without main power the level of the input stands by itself (assumption 6). -/
def execEsdInputChange (active : Bool) (s : State) : Host.Outcome State Fault Refusal :=
  .next (if s.powered then esdChanged active s else s.modFault fun f => { f with esdActive := active })

/-- R188: the first condition that does not hold, as the reason's place in R188's table. -/
def restartRefusal (s : State) : Option Nat :=
  if s.fault.mode = .starting then some 0
  else if !s.fault.esdArmed then some 1
  else if s.fault.esdActive then some 2
  else if s.fault.firstSevere.isSome then some 3
  else if s.inv.table.state ≠ .valid then some 4
  else none

/-- R188. A refusal carries its reason and then the mode (assumption 33). -/
def restart (s : State) : State × Reply :=
  match restartRefusal s with
  | some n => (s, refuseWith .notReady [.byte n, .byte (modeCode s.fault.mode)])
  | none => (setMode .run s, ok [.byte (modeCode .run)])

def execRestart (p : Port) (s : State) : Host.Outcome State Fault Refusal := .next (request p onPlant restart s)

/-- R190. -/
def clearLock (n : Nat) (s : State) : State × Reply :=
  match Disp.ofNat? n with
  | none => (s, refuse .badValue)
  | some d => (s.modFault fun f => { f with locked := f.locked.set d false }, ok [flagVal false])

def execClearLock (p : Port) (a : Option Nat) (s : State) : Host.Outcome State Fault Refusal :=
  .next (request p onPlant (withArgs a clearLock) s)

end Sys2Proof.Machine
end

