-- ==== Sys2Proof/Machine/InventoryCommands.lean ====
section
/-! DEFINITION. The Inventory Unit's commands and timers (R1 to R23). -/

namespace Sys2Proof.Machine

/-- R100: a change of a bank's service state or freshness runs the arbiter pass. -/
def passIfChanged (before : BankEntry) (b : Bank) (s : State) : State :=
  if before.service = (s.bank b).service ∧ before.fresh = (s.bank b).fresh then s else arbiterPass s

/-! ### BANK_CONFIG (R2, R3) -/

/-- R2, third check. -/
def configInRange (a : BankConfigArgs) : Bool :=
  decide (1 ≤ a.volume) && decide (a.volume ≤ 20000) && decide (1000 ≤ a.rated) && decide (a.rated ≤ 9000) &&
  decide (1 ≤ a.tier) && decide (a.tier ≤ 3) && decide (1 ≤ a.serves.toNat) && decide (a.serves.toNat ≤ 3) &&
  decide (a.refillStart ≤ 8999) && decide (a.refillStart < a.refillStop) && decide (a.refillStop ≤ a.rated)

/-- R2: what an accepted description writes. -/
def describeBank (a : BankConfigArgs) (isolated : Bool) (t : GasTable) (e : BankEntry) : BankEntry :=
  { e with
    configured := true, volume := a.volume, rated := a.rated, tier := a.tier, servesH70 := a.serves.getLsbD 0,
    servesH35 := a.serves.getLsbD 1, refillStart := a.refillStart, refillStop := a.refillStop, fresh := false,
    staleTimer := none, service := if isolated then .isolated else .inService,
    inventory := if t.state = .valid then gasMass e.density a.volume else e.inventory }

def acceptConfig (b : Bank) (f : BankEntry → BankEntry) (s : State) : State × Reply :=
  let t := passIfChanged (s.bank b) b (s.modBank b f)
  (t, ok (bankEntryVals (t.bank b)))

def bankConfig (a : BankConfigArgs) (s : State) : State × Reply :=
  match Bank.ofNat? a.bank with
  | none => (s, refuse .badValue)
  | some b =>
    let e := s.bank b
    if e.service = .inService ∨ e.service = .fault ∨ e.holder ≠ none then (s, refuse .notAllowed)
    else if !a.configured then acceptConfig b (fun _ => .unconfigured) s
    else if configInRange a then acceptConfig b (describeBank a (s.inv.isolation.get b) s.inv.table) s
    else (s, refuse .badValue)

def execBankConfig (p : Port) (a : Option BankConfigArgs) (s : State) : Host.Outcome State Fault Refusal :=
  .next (request p onPlant (withArgs a bankConfig) s)

/-! ### BANK_REPORT (R4, R5) -/

/-- R4: the banks a report names, or none where it is refused. -/
def reportedBanks : List BankReading → Option (List Bank)
  | [] => some []
  | r :: rs =>
    match Bank.ofNat? r.bank, reportedBanks rs with
    | some b, some bs => if bs.contains b then none else some (b :: bs)
    | _, _ => none

/-- R4: one entry, taken. -/
def takeReading (s : State) (r : BankReading) : State :=
  match Bank.ofNat? r.bank with
  | none => s
  | some b =>
    if (s.bank b).service = .unconfigured then s
    else s.modBank b fun e =>
      let x := { e with
        pressure := takePressure r.pressure, temperature := takeTemperature r.temperature, reportTime := s.port.clock,
        fresh := true, staleTimer := some 5000 }
      if s.inv.table.state = .valid then x.recompute s.inv.table else x

/-- R4: the banks of the entries whose pressure or temperature had to be brought into range. -/
def outOfRangeBanks (s : State) (rs : List BankReading) : List Bank :=
  rs.filterMap fun r =>
    match Bank.ofNat? r.bank with
    | none => none
    | some b =>
      if (s.bank b).service != .unconfigured && (pressureOut r.pressure || temperatureOut r.temperature) then some b else none

/-- R109: a report of the run's bank at its refill stop pressure ends the run. -/
def stopReached (taken : List Bank) (s : State) : State :=
  match s.lane.refill.bank with
  | none => s
  | some b =>
    if taken.contains b && decide ((s.bank b).refillStop ≤ (s.bank b).pressure) then
      endRefill .stopReached (some .refillDone) s
    else s

/-- R106: a reported bank leaves the refill queue at its refill stop pressure, or joins it below its refill start pressure. -/
def queueReported (s : State) (b : Bank) : State :=
  let e := s.bank b
  if e.refillStop ≤ e.pressure then leaveQueue b s
  else if s.fault.mode != .shutdown && e.service == .inService && e.fresh && decide (e.pressure < e.refillStart) &&
      !s.lane.refillQueue.contains b && !(s.lane.deferred.any fun x => x.bank == b) && e.holder == none then
    joinQueue b s.port.clock s
  else s

/-- R5: the Lane Arbiter's response to one bank report, in its order; holders are the dispensers that held the lane of a bank
that the report itself may have faulted. The lanes of several sessions are released in dispenser order, a choice of the model
(assumption 24). -/
def laneBankReport (taken : List Bank) (holders : List Disp) (s : State) : State :=
  let t := stopReached taken s
  let met := Disp.all.filter fun d =>
    switchMet t d && (match (t.sess d).currentBank with
      | some b => taken.contains b
      | none => false)
  let u := met.foldl (fun x d => releaseLane d x) t
  let askers := Disp.all.filter fun d => holders.contains d || met.contains d
  let v := (byStamp u askers).foldl askAgain u
  let w := arbiterPass (taken.foldl queueReported v)
  if askers.any (fun d => (u.sess d).phase.active && !(v.sess d).phase.active) then tryAdmission w else w

def bankReport (rs : List BankReading) (s : State) : State × Reply :=
  match reportedBanks rs with
  | none => (s, refuse .badValue)
  | some bs =>
    if rs.isEmpty || decide (6 < rs.length) then (s, refuse .badValue)
    else
      let taken := bs.filter fun b => (s.bank b).service != .unconfigured
      let out := outOfRangeBanks s rs
      let t := rs.foldl takeReading s
      let u := out.foldl (fun x b => raiseBank .sensorRange b none x) t
      (laneBankReport taken (holdersOf t out) u, ok [.num taken.length])

def execBankReport (p : Port) (a : Option (List BankReading)) (s : State) : Host.Outcome State Fault Refusal :=
  .next (request p onPlant (withArgs a bankReport) s)

/-! ### ISOLATE_SET, ISOLATE_CLEAR, CLEAR_BANK (R7, R8, R10) -/

/-- R7, one bank: it joins the set; IN_SERVICE becomes ISOLATED, and its refill requests are dropped. -/
def isolateBank (s : State) (b : Bank) : State :=
  let t := s.modInv fun i => { i with isolation := i.isolation.set b true }
  if (s.bank b).service = .inService then dropRequests b (t.modBank b fun e => { e with service := .isolated }) else t

/-- R7, R104. The lanes of several banks are released in bank order, a choice of the model (assumption 24). -/
def isolateSet (m : Byte) (s : State) : State × Reply :=
  match bankSetOf m with
  | none => (s, refuse .badValue)
  | some bs =>
    let lost := bs.filter fun b => (s.bank b).service == .inService
    let t := lost.foldl (fun x b => loseLane b x) (bs.foldl isolateBank s)
    let u := if lost.isEmpty then t else resumeAfterRelease (holdersOf s lost) t
    (u, ok [.byte (bankSetCode u.inv.isolation)])

def execIsolateSet (p : Port) (a : Option Byte) (s : State) : Host.Outcome State Fault Refusal :=
  .next (request p onPlant (withArgs a isolateSet) s)

/-- R8, one bank: it leaves the set; ISOLATED becomes IN_SERVICE. -/
def restoreBank (s : State) (b : Bank) : State :=
  let t := s.modInv fun i => { i with isolation := i.isolation.set b false }
  if (s.bank b).service = .isolated then t.modBank b fun e => { e with service := .inService } else t

def isolateClear (m : Byte) (s : State) : State × Reply :=
  match bankSetOf m with
  | none => (s, refuse .badValue)
  | some bs =>
    let t := bs.foldl restoreBank s
    let u := if bs.any fun b => (s.bank b).service == .isolated then arbiterPass t else t
    (u, ok [.byte (bankSetCode u.inv.isolation)])

def execIsolateClear (p : Port) (a : Option Byte) (s : State) : Host.Outcome State Fault Refusal :=
  .next (request p onPlant (withArgs a isolateClear) s)

def clearBank (n : Nat) (s : State) : State × Reply :=
  match Bank.ofNat? n with
  | none => (s, refuse .badValue)
  | some b =>
    if (s.bank b).service = .fault then
      let sv : Service := if s.inv.isolation.get b then .isolated else .inService
      (arbiterPass (s.modBank b fun e => { e with service := sv }), ok [.byte (serviceCode sv)])
    else (s, refuse .notAllowed)

def execClearBank (p : Port) (a : Option Nat) (s : State) : Host.Outcome State Fault Refusal :=
  .next (request p onPlant (withArgs a clearBank) s)

/-! ### The gas-property table (R12 to R14) -/

/-- R12: a session that is not IDLE, or a lane that the compressor holds. -/
def tableBusy (s : State) : Bool :=
  !s.allIdle || Bank.all.any fun b => (s.bank b).holder == some .compressor

def GasTable.opened (t : GasTable) : GasTable :=
  { t with state := .loading, rows := t.rows.map fun r => { r with received := false }, refH70 := none, refH35 := none }

def tableBegin (s : State) : State × Reply :=
  if tableBusy s then (s, refuse .busy) else (s.modInv fun i => { i with table := i.table.opened }, ok [])

def execTableBegin (p : Port) (s : State) : Host.Outcome State Fault Refusal := .next (request p onPlant tableBegin s)

def rowInRange (a : TableRowArgs) : Bool :=
  decide (a.row ≤ 5) && decide (a.entries.length = 10) && a.entries.all fun x => decide (x ≤ 60000)

/-- R13; the state is checked before the payload, so a TABLE_ROW outside LOADING is NOT_ALLOWED whatever it carries. -/
def tableRow (a : Option TableRowArgs) (s : State) : State × Reply :=
  if s.inv.table.state ≠ .loading then (s, refuse .notAllowed)
  else
    match a with
    | none => (s, refuse .badValue)
    | some a =>
      if rowInRange a then
        (s.modInv fun i =>
          { i with table := { i.table with rows := i.table.rows.set a.row { entries := a.entries, received := true } } }, ok [])
      else (s, refuse .badValue)

def execTableRow (p : Port) (a : Option TableRowArgs) (s : State) : Host.Outcome State Fault Refusal :=
  .next (request p onPlant (tableRow a) s)

/-- R14: the failure reason and the position, in the order of R14's table. Where both reference densities are 0, REFERENCE_ZERO names
H70, a choice of the model (assumption 26). -/
def tableFailureVals : TableFailure → List Val
  | .missingRow r => [.byte 0, .num r]
  | .zeroColumn r => [.byte 1, .num r]
  | .pressureOrder r c => [.byte 2, .num r, .num c]
  | .temperatureOrder r c => [.byte 3, .num r, .num c]
  | .referenceZero h => [.byte 4, .byte (hoseClassCode h)]

def GasTable.closed (t : GasTable) : GasTable :=
  { t with state := .invalid, rows := t.rows.map fun r => { r with received := false } }

def GasTable.validated (t : GasTable) : GasTable :=
  { t with state := .valid, refH70 := some (referenceDensity t .h70), refH35 := some (referenceDensity t .h35) }

def tableEnd (s : State) : State × Reply :=
  let t := s.inv.table
  if t.state ≠ .loading then (s, refuse .notAllowed)
  else
    match tableFailure t with
    | some x => (s.modInv fun i => { i with table := i.table.closed }, refuseWith .badValue (tableFailureVals x))
    | none =>
      (s.modInv fun i =>
        { i with
          table := i.table.validated,
          banks := i.banks.map fun e => if e.configured then e.recompute i.table else e },
       ok [.num (referenceDensity t .h70), .num (referenceDensity t .h35)])

def execTableEnd (p : Port) (s : State) : Host.Outcome State Fault Refusal := .next (request p onPlant tableEnd s)

/-! ### Ambient and compressor records (R20, R21) -/

def ambientReport (t : Int) (s : State) : State × Reply :=
  let u := s.modInv fun i =>
    { i with ambient := { temperature := takeTemperature t, time := s.port.clock, fresh := true, staleTimer := some 10000 } }
  (if temperatureOut t then raiseStation .sensorRange u else u, ok [.int (takeTemperature t)])

def execAmbientReport (p : Port) (a : Option Int) (s : State) : Host.Outcome State Fault Refusal :=
  .next (request p onPlant (withArgs a ambientReport) s)

/-- R21, R111: a new FAULT ends the refill run, which runs the pass. -/
def compressorFailed (s : State) : State :=
  let t := raiseStation .compressorFault s
  if t.lane.refill.state = .none then t else arbiterPass (endRefill .compressorFault (some .refillDone) t)

def compressorReport (n : Nat) (s : State) : State × Reply :=
  match compressorStateOf n with
  | none => (s, refuse .badValue)
  | some c =>
    let old := s.inv.compressor.state
    let t := s.modInv fun i => { i with compressor := { state := c, time := s.port.clock } }
    if c = .fault ∧ old ≠ .fault then (compressorFailed t, ok [])
    else if c = .available ∧ old ≠ .available then (arbiterPass t, ok [])
    else (t, ok [])

def execCompressorReport (p : Port) (a : Option Nat) (s : State) : Host.Outcome State Fault Refusal :=
  .next (request p onPlant (withArgs a compressorReport) s)

def execReadBanks (p : Port) (s : State) : Host.Outcome State Fault Refusal :=
  .next (request p onPlantOrSales (fun s => (s, ok (readBanksVals s))) s)

/-! ### Staleness timers (R6, R20) -/

/-- R6: the bank turns STALE; BANK_STALE if it is IN_SERVICE. -/
def bankStale (b : Bank) (s : State) : State :=
  let e := s.bank b
  if e.staleTimer.isSome then
    let t := s.modBank b fun x => { x with fresh := false, staleTimer := none }
    let u := if e.service = .inService then raiseBank .bankStale b none t else t
    resumeAfterRelease (holdersOf s [b]) u
  else s

def execBankStalenessExpiry (b : Bank) (s : State) : Host.Outcome State Fault Refusal := .next (event (bankStale b) s)

def ambientStale (s : State) : State :=
  if s.inv.ambient.staleTimer.isSome then
    raiseStation .ambientStale (s.modInv fun i => { i with ambient := { i.ambient with fresh := false, staleTimer := none } })
  else s

def execAmbientStalenessExpiry (s : State) : Host.Outcome State Fault Refusal := .next (event ambientStale s)

end Sys2Proof.Machine
end

