-- ==== Sys2Proof/Machine/LaneCommands.lean ====
section
/-! DEFINITION. The Lane Arbiter's commands, the completion of route switches and the yield timers (R93 to R95, R99, R105, R108,
R110). -/

namespace Sys2Proof.Machine

/-! ### LANE_SETTINGS (R95) -/

def laneSettingsInRange (a : LaneSettingsArgs) : Bool :=
  decide (100 ≤ a.switchTime) && decide (a.switchTime ≤ 5000) && decide (100 ≤ a.dpStart) && decide (a.dpStart ≤ 2000) &&
  decide (100 ≤ a.dpSwitch) && decide (a.dpSwitch ≤ 2000) && decide (1 ≤ a.yieldTime) && decide (a.yieldTime ≤ 120) &&
  decide (a.dpSwitch < a.dpStart)

/-- R99: the new yield time, in milliseconds, on an entry not yet due. -/
def Waiter.reset (yield : Nat) (w : Waiter) : Waiter :=
  if w.due then w
  else if yield ≤ w.waited then { w with yieldTimer := none, due := true }
  else { w with yieldTimer := some (yield - w.waited) }

def settingsOf (a : LaneSettingsArgs) : LaneSettings :=
  { switchTime := a.switchTime, dpStart := a.dpStart, dpSwitch := a.dpSwitch, yieldTime := a.yieldTime }

def laneSettings (a : LaneSettingsArgs) (s : State) : State × Reply :=
  if laneSettingsInRange a then
    (arbiterPass (s.modLane fun l =>
      { l with settings := settingsOf a, waitList := l.waitList.map (Waiter.reset (a.yieldTime * 1000)) }),
     ok (laneSettingsVals (settingsOf a)))
  else (s, refuse .badValue)

def execLaneSettings (p : Port) (a : Option LaneSettingsArgs) (s : State) : Host.Outcome State Fault Refusal :=
  .next (request p onPlant (withArgs a laneSettings) s)

/-! ### REFILL_STOP (R110) and VALVE_REPORT (R105) -/

def refillStop (n : Nat) (s : State) : State × Reply :=
  match Bank.ofNat? n with
  | none => (s, refuse .badValue)
  | some b =>
    if s.lane.refill.state = .none ∨ s.lane.refill.bank ≠ some b then (s, refuse .notAllowed)
    else
      let t := endRefill .stopped none s
      (arbiterPass t, ok (refillVals (arbiterPass t).lane.refill))

def execRefillStop (p : Port) (a : Option Nat) (s : State) : Host.Outcome State Fault Refusal :=
  .next (request p onPlant (withArgs a refillStop) s)

def valveReport (a : ValveArgs) (s : State) : State × Reply :=
  match Bank.ofNat? a.bank, consumerOf a.consumer with
  | some b, some c =>
    let t := raiseBank .valveFault b (some c) s
    (if (s.bank b).service = (t.bank b).service then t else resumeAfterRelease (holdersOf s [b]) t, ok [])
  | _, _ => (s, refuse .badValue)

def execValveReport (p : Port) (a : Option ValveArgs) (s : State) : Host.Outcome State Fault Refusal :=
  .next (request p onPlant (withArgs a valveReport) s)

/-! ### Completion of a route switch (R94) -/

/-- R42, R61, R88, R94: the first entry into FLOWING. -/
def beginFlow (d : Disp) (s : State) : State :=
  let t := s.modUnit d fun u =>
    { u with
      permit := s.fault.mode != .shutdown, sess := { u.sess with flowBegun := true, graceTimer := some 30000 } }
  startRamp d t

/-- R94, dispenser. -/
def dispSwitched (d : Disp) (s : State) : State :=
  match (s.unit.get d).switchTimer, (s.sess d).currentBank with
  | some _, some b =>
    let t := (setValve b (.disp d) true s).modUnit d fun u => { u with switchTimer := none }
    setPhase d .flowing (if (s.sess d).flowBegun then t else beginFlow d t)
  | _, _ => s

/-- R94, R108, compressor. -/
def compressorSwitched (s : State) : State :=
  match s.lane.refill.switchTimer, s.lane.refill.bank with
  | some _, some b =>
    addPlantEvent .refillGrant <| (setValve b .compressor true s).modLane fun l =>
      { l with refill := { l.refill with state := .running, switchTimer := none } }
  | _, _ => s

def switched (c : Consumer) (s : State) : State :=
  match c with
  | .disp d => dispSwitched d s
  | .compressor => compressorSwitched s

def execSwitchCompletion (c : Consumer) (s : State) : Host.Outcome State Fault Refusal := .next (event (switched c) s)

/-! ### Yield timers (R99) -/

/-- R99: the waiter's yield timer expires. -/
def Waiter.expired (d : Disp) (w : Waiter) : Waiter :=
  if w.disp = d then { w with yieldTimer := none, due := true } else w

def yieldExpired (d : Disp) (s : State) : State :=
  if s.lane.waitList.any fun w => w.disp == d && w.yieldTimer.isSome then
    arbiterPass (s.modLane fun l => { l with waitList := l.waitList.map (Waiter.expired d) })
  else s

def execYieldTimerExpiry (d : Disp) (s : State) : Host.Outcome State Fault Refusal := .next (event (yieldExpired d) s)

end Sys2Proof.Machine
end

