-- ==== Sys2Proof/Machine/MeterCommands.lean ====
section
/-! DEFINITION. Meter pulses, the calibration switch and window, and SET_METER_FACTOR (R116 to R128). -/

namespace Sys2Proof.Machine

/-! ### Meter pulses -/

/-- R116: whether a pulse counts to the session. -/
def countsToSession (r : Session) : Bool :=
  match r.phase with
  | .flowing | .bankWait | .closing => true
  | .switching => r.flowBegun
  | .idle | .coldWait | .laneWait | .commitWait => false

/-- R117: the mass of a pulse count. -/
def massOf (pulses k : Nat) : Nat := pulses * 1000 / k

/-- The last bank-use entry credited with an increase (R24, R117). -/
def creditLast (grams : Nat) : List BankUse → List BankUse
  | [] => []
  | [u] => [{ u with drawn := u.drawn + grams }]
  | u :: v :: us => u :: creditLast grams (v :: us)

def creditBank (d : Disp) (grams : Nat) (s : State) : State :=
  modBilled d (fun r => { r with bankUse := creditLast grams r.bankUse }) s

/-- R70: the states in which the budget test is applied. -/
def budgetTested : Phase → Bool
  | .flowing | .switching | .bankWait => true
  | .idle | .coldWait | .laneWait | .closing | .commitWait => false

/-- R70. -/
def budgetTest (d : Disp) (s : State) : State :=
  let r := s.sess d
  if budgetTested r.phase && decide (r.budget ≤ r.mass) then terminate d .budgetReached s else s

/-- R117: an increase of mass is drawn and credited, and then meets the budget test. -/
def massIncrease (d : Disp) (grams : Nat) (s : State) : State := budgetTest d (creditBank d grams (drawMass d grams s))

/-- R117: a pulse that counts to the session. -/
def sessionPulse (d : Disp) (s : State) : State :=
  let r := s.sess d
  let m := massOf (r.pulses + 1) r.k
  let t := modBilled d (fun r => { r with pulses := r.pulses + 1, mass := m }) s
  if r.mass < m then massIncrease d (m - r.mass) t else t

/-- R119: the number of pulses for 20 g, rounded up. -/
def leakThreshold (k : Nat) : Nat := (k + 49) / 50

/-- R119: a pulse that no session takes. -/
def unaccountedPulse (d : Disp) (s : State) : State :=
  let n := s.meter.unaccounted.get d + 1
  let put (x : Nat) := s.modMeter fun m => { m with unaccounted := m.unaccounted.set d x }
  if leakThreshold (s.meter.factor.get d) ≤ n then raiseDisp .leakFlow d (put 0) else put n

/-- R120. -/
def countTotal (d : Disp) (s : State) : State :=
  s.modLog fun l =>
    { l with
      retained := { l.retained with totalizers := l.retained.totalizers.set d ((l.retained.totalizers.get d + 1) % 4294967296) } }

def meterPulse (d : Disp) (s : State) : State :=
  let t := countTotal d s
  if countsToSession (s.sess d) then sessionPulse d t else unaccountedPulse d t

def execMeterPulse (d : Disp) (s : State) : Host.Outcome State Fault Refusal := .next (event (meterPulse d) s)

/-! ### The calibration switch (R122) -/

/-- R122: a change of the input; assertion with a session running raises CAL_SWITCH, deassertion closes the window. -/
def calSwitchChanged (asserted : Bool) (s : State) : State :=
  let t := s.modMeter fun m => { m with calSwitch := asserted }
  if asserted = s.meter.calSwitch then s
  else if asserted then (if s.allIdle then t else raiseStation .calSwitch t)
  else setWindow 0 t

/-- Without main power the level of the input stands by itself (assumption 6). -/
def execCalSwitchChange (asserted : Bool) (s : State) : Host.Outcome State Fault Refusal :=
  .next (if s.powered then calSwitchChanged asserted s else s.modMeter fun m => { m with calSwitch := asserted })

/-! ### CAL_UNLOCK (R123) -/

def calUnlock (s : State) : State × Reply :=
  if s.meter.calSwitch then (setWindow 4 s, ok [.num 4]) else (s, refuse .notAllowed)

/-- R123, R124: a CAL_UNLOCK is not itself counted. -/
def execCalUnlock (p : Port) (s : State) : Host.Outcome State Fault Refusal :=
  .next (requestWith (endStream p) id p onPlant calUnlock s)

/-! ### SET_METER_FACTOR (R125, R126) -/

/-- R160: the calibration record of a change. -/
def calRecordOf (c : PendingChange) : QueueEntry :=
  { source := .calibration,
    record := .cal
      { disp := c.disp, station := 0, seq := 0, time := c.time, oldFactor := c.oldFactor, newFactor := c.newFactor,
        counter := c.counter, timeUnset := c.timeUnset } }

/-- R125: the fifth check passes when no change waits for its record. -/
def changeSettled (m : MeterUnit) : Bool :=
  match m.change with
  | none => true
  | some c => c.recorded

def changeOf (s : State) (d : Disp) (factor : Nat) : PendingChange :=
  { disp := d, oldFactor := s.meter.factor.get d, newFactor := factor, counter := s.meter.metrology + 1,
    time := s.port.clock, timeUnset := !s.port.clockSet, recorded := false }

/-- R126. -/
def changeFactor (d : Disp) (factor : Nat) (s : State) : State :=
  let c := changeOf s d factor
  let t := s.modMeter fun m =>
    { m with factor := m.factor.set d factor, metrology := m.metrology + 1, change := some c }
  offerRecord (calRecordOf c) (reserveSlot t)

def setMeterFactor (a : Option MeterFactorArgs) (s : State) : State × Reply :=
  if s.meter.window = 0 then (s, refuse .notAllowed)
  else
    match a, a.bind fun x => Disp.ofNat? x.disp with
    | some a, some d =>
      if a.factor < 100 ∨ 100000 < a.factor then (s, refuse .badValue)
      else if maxWord ≤ s.meter.metrology then (s, refuse .notAllowed)
      else if (s.sess d).phase ≠ .idle then (s, refuse .busy)
      else if !changeSettled s.meter then (s, refuse .busy)
      else if 8 ≤ s.log.queue.length ∨ freeSlots s = 0 then (s, refuse .busy)
      else
        (changeFactor d a.factor s,
         ok [dispVal d, .num (s.meter.factor.get d), .num a.factor, .num (s.meter.metrology + 1)])
    | _, _ => (s, refuse .badValue)

def execSetMeterFactor (p : Port) (a : Option MeterFactorArgs) (s : State) : Host.Outcome State Fault Refusal :=
  .next (request p onPlant (setMeterFactor a) s)

end Sys2Proof.Machine
end

