-- ==== Sys2Proof/Machine/LogCommands.lean ====
section
/-! DEFINITION. Export and release, the completions of the array's operations, and start-up recovery (R151 to R170, R127). -/

namespace Sys2Proof.Machine

/-! ### Export and release (R161 to R165) -/

/-- R161: the oldest unreleased sequence number. -/
def oldestUnreleased (l : LogController) : Nat := l.retained.release + 1

/-- The newest sequence number, 0 while the array holds no record. -/
def newestOf (v : LogView) : Nat := v.newest.getD 0

def startStream (n : Nat) (s : State) : State × Reply :=
  (s.modLog fun l => { l with cursor := n, stream := true }, ok [.num n])

/-- R161, R162. A number out of bounds is the one refusal that keeps stream mode on (R162); the others end it, as any other
request does (R163). -/
def exportStart (a : Option (Option Nat)) (s : State) : State × Reply :=
  match s.log.view, a with
  | none, _ => (endStream .sales s, refuse .notReady)
  | some _, none => (endStream .sales s, refuse .badValue)
  | some _, some none => startStream (oldestUnreleased s.log) s
  | some v, some (some n) =>
    if n < oldestUnreleased s.log ∨ newestOf v + 1 < n then (s, refuse .badValue) else startStream n s

/-- R162: an EXPORT_START settles the stream mode itself. -/
def execExportStart (p : Port) (a : Option (Option Nat)) (s : State) : Host.Outcome State Fault Refusal :=
  .next (requestWith id (countRequest p) p onSales (exportStart a) s)

/-- R163: the record at the cursor, with the cursor and delivered mark after it. -/
def exportRecord (v : LogView) (s : State) : State × Reply :=
  let c := s.log.cursor
  if c ≤ newestOf v then
    (s.modLog fun l => { l with delivered := max l.delivered c, cursor := c + 1 },
     ok (match Memory.read s.log.array (slotOf c) with
       | some r => [.raw r.bytes]
       | none => []))
  else (s, ok [])

def exportNext (s : State) : State × Reply :=
  match s.log.view with
  | none => (s, refuse .notReady)
  | some v => if s.log.stream then exportRecord v s else (s, refuse .notAllowed)

/-- R163: an EXPORT_NEXT does not end stream mode. -/
def execExportNext (p : Port) (s : State) : Host.Outcome State Fault Refusal :=
  .next (requestWith id (countRequest p) p onSales exportNext s)

/-- R164: the log with its release pointer raised to n, if n is above it. -/
def LogController.released (n : Nat) (l : LogController) : LogController :=
  let r := max l.retained.release n
  { l with retained := { l.retained with release := r }, cursor := max l.cursor (r + 1) }

def release (a : Option Nat) (s : State) : State × Reply :=
  match s.log.view, a with
  | none, _ => (s, refuse .notReady)
  | some _, none => (s, refuse .badValue)
  | some _, some n =>
    let t := s.modLog (LogController.released (min n s.log.delivered))
    (if s.log.retained.release < t.log.retained.release then chooseOperation t else t, ok [.num t.log.retained.release])

def execRelease (p : Port) (a : Option Nat) (s : State) : Host.Outcome State Fault Refusal :=
  .next (request p onSales (release a) s)

def execReadLogStatus (p : Port) (s : State) : Host.Outcome State Fault Refusal :=
  .next (request p onPlantOrSales (fun s => (s, ok (logStatusVals s))) s)

/-! ### Recovery complete (R170, R183) -/

def leaveStarting (s : State) : State :=
  if s.fault.mode = .starting then
    if s.fault.demand then enterShutdown (s.modFault fun f => { f with demand := false }) else setMode .restricted s
  else s

def recoveryComplete (s : State) : State :=
  let t := s.modLog fun l => { l with recovering := false }
  leaveStarting (if freeSlots t < 64 then addSalesEvent .logLow t else t)

/-! ### Completion of a commit (R158, R49, R126) -/

/-- R126, R158: the change's record is in the array. -/
def markRecorded (s : State) : State :=
  addPlantEvent .calRecorded (s.modMeter fun m => { m with change := m.change.map fun c => { c with recorded := true } })

/-- R158: what the completion does for the record's source. -/
def settleSource (src : Source) (s : State) : State :=
  match src with
  | .session d => setPhase d .idle (settleEntry d (clearSlot d (addSalesEvent .saleCommitted s)))
  | .recovered d => clearSlot d (addSalesEvent .saleCommitted s)
  | .calibration => markRecorded s

/-- R158: the array after the completion. -/
def LogController.committed (slot seq : Nat) (r : LogRecord) (l : LogController) : LogController :=
  { l with
    array := Memory.write l.array slot r, op := .idle,
    view := l.view.map fun v => { v with newest := some seq, oldest := some (v.oldest.getD seq) } }

/-- R170: one of the records that recovery queued has committed. -/
def countRecovered (s : State) : State :=
  if s.log.recoveryLeft = 0 then s
  else
    let t := s.modLog fun l => { l with recoveryLeft := l.recoveryLeft - 1 }
    if s.log.recoveryLeft = 1 then recoveryComplete t else t

/-- R152: a completion made across a reset adds no event and settles nothing. -/
def commitCompleted (s : State) : State :=
  match s.log.op with
  | .committing e slot seq =>
    if s.log.carried then
      s.modLog fun l => { l with array := Memory.write l.array slot e.record, op := .idle, carried := false }
    else
      countRecovered (chooseOperation (settleSource e.source (s.modLog (LogController.committed slot seq e.record))))
  | .idle => s
  | .erasing _ => s

/-- A commit runs to its completion without main power too (R152). -/
def execCommitCompletion (s : State) : Host.Outcome State Fault Refusal := .next (commitCompleted s)

/-! ### Completion of an erase (R153) -/

/-- R153: the sequence number at the first slot of the next block. -/
def firstOfNextBlock (array : List (Nat × LogRecord)) (b : Nat) : Option Nat :=
  (Memory.read array (((b + 1) % 64) * 32)).map LogRecord.seq

/-- R153: the array after the erase of a block. -/
def LogController.blockErased (b : Nat) (l : LogController) : LogController :=
  { l with
    array := Memory.eraseBlock l.array b, op := .idle,
    view := l.view.map fun v => { v with erased := v.erased + 32, oldest := firstOfNextBlock l.array b } }

def eraseCompleted (s : State) : State :=
  match s.log.op with
  | .erasing b =>
    if s.log.carried then
      s.modLog fun l => { l with array := Memory.eraseBlock l.array b, op := .idle, carried := false }
    else chooseOperation (s.modLog (LogController.blockErased b))
  | .idle => s
  | .committing _ _ _ => s

/-- An erase runs to its completion without main power too (R152). -/
def execEraseCompletion (s : State) : Host.Outcome State Fault Refusal := .next (eraseCompleted s)

/-! ### Completion of the start-up scan (R167 to R169, R127) -/

def leastSeq (m : List (Nat × LogRecord)) : Option Nat :=
  m.foldl (fun x c => match x with
    | none => some c.2.seq
    | some n => some (min n c.2.seq)) none

def greatestSeq (m : List (Nat × LogRecord)) : Option Nat :=
  m.foldl (fun x c => match x with
    | none => some c.2.seq
    | some n => some (max n c.2.seq)) none

/-- R151, R167: what the scan derives from the array. -/
def scanView (m : List (Nat × LogRecord)) : LogView :=
  { erased := 2048 - m.length, oldest := leastSeq m, newest := greatestSeq m,
    writePos := match greatestSeq m with
      | some n => (slotOf n + 1) % 2048
      | none => 0 }

/-- R168: a sale record of the dispenser with the number, found by the scan. -/
def saleFound (m : List (Nat × LogRecord)) (d : Disp) (seq : Nat) : Bool :=
  m.any fun c => match c.2 with
    | .sale r => r.seq == seq && r.disp == d
    | .cal _ => false

/-- R127: a calibration record with the counter value, found by the scan. -/
def calFound (m : List (Nat × LogRecord)) (counter : Nat) : Bool :=
  m.any fun c => match c.2 with
    | .sale _ => false
    | .cal r => r.counter == counter

/-- R168: the recovered sale record of an open-session slot. -/
def recoveredRecord (s : State) (d : Disp) (o : OpenSlot) : SaleRecord :=
  let m := massOf o.pulses o.k
  { disp := d, station := 0, seq := 0, startTime := o.startTime, endTime := s.port.clock, authNumber := o.authNumber,
    group := o.group, line := o.line, account := o.account, price := o.price, limit := o.limit, mass := m,
    amount := billedAmount m o.price o.limit, k := o.k, metrology := o.metrology, soc := none, hoseClass := o.hoseClass,
    fillKind := o.fillKind, classAtStart := o.classAtStart, classAtEnd := o.classNow, reason := some .resetRecovered,
    timeUnset := o.startUnset || !s.port.clockSet, capped := cappedFlag m o.price o.limit, coldShortfall := o.coldShortfall,
    bankUse := o.bankUse }

/-- R168, R127: recovery reserves a slot for a record and queues it; no operation starts before the examination is done. -/
def queueRecovered (e : QueueEntry) (s : State) : State :=
  (reserveForRecovery s).modLog fun l => { l with queue := l.queue ++ [e], recoveryLeft := l.recoveryLeft + 1 }

/-- R168, one slot. -/
def recoverSlot (s : State) (d : Disp) : State :=
  match s.log.retained.slots.get d with
  | none => s
  | some o =>
    if (match o.committing with
        | some n => saleFound s.log.array d n
        | none => false) then clearSlot d s
    else if o.pulses = 0 then clearSlot d s
    else queueRecovered { source := .recovered d, record := .sale (recoveredRecord s d o) } s

/-- R169. -/
def retainLost (s : State) : State :=
  raiseStation .retainLost <| s.modLog fun l =>
    { l with
      retained :=
        { marker := true, slots := .same none, totalizers := .same 0,
          release := match l.view.bind (·.oldest) with
            | some n => n - 1
            | none => 0 } }

/-- R168, R169. -/
def examineRetained (s : State) : State :=
  if s.log.retained.marker then Disp.all.foldl recoverSlot s else retainLost s

/-- R127. -/
def examineChange (s : State) : State :=
  match s.meter.change with
  | none => s
  | some c =>
    if c.recorded then s
    else if calFound s.log.array c.counter then s.modMeter fun m => { m with change := some { c with recorded := true } }
    else queueRecovered (calRecordOf c) s

/-- R161: the cursor and the delivered mark after the scan. -/
def setCursor (s : State) : State :=
  s.modLog fun l => { l with cursor := l.retained.release + 1, delivered := l.retained.release }

/-- R167, R170. -/
def scanCompleted (s : State) : State :=
  if s.log.view.isNone && s.log.op == .idle then
    let t := s.modLog fun l => { l with view := some (scanView l.array) }
    let t := chooseOperation (setCursor (examineChange (examineRetained t)))
    if t.log.recoveryLeft = 0 then recoveryComplete t else t
  else s

def execScanCompletion (s : State) : Host.Outcome State Fault Refusal := .next (event scanCompleted s)

end Sys2Proof.Machine
end

