-- ==== Sys2Proof/Machine/PortCommands.lean ====
section
/-! DEFINITION. Frames that are no request, the Port Interface's own commands, and the station clock (R191 to R199). -/

namespace Sys2Proof.Machine

/-- R163, R191: an empty frame is a poll, or a request for the record at the cursor in stream mode. -/
def emptyFrame (p : Port) (s : State) : State × Reply :=
  if p = .sales ∧ s.log.stream then exportNext s else (s, ok [])

def execEmptyFrame (p : Port) (s : State) : Host.Outcome State Fault Refusal :=
  .next (event (fun s => placeReply p (emptyFrame p s).2 (emptyFrame p s).1) s)

/-- R193: the site of FRAME_ERROR. -/
def raiseFrameError (p : Port) (s : State) : State :=
  match p with
  | .disp d => raiseDisp .frameError d s
  | .plant => raiseStation .frameError s
  | .sales => raiseStation .frameError s

/-- R193: a discarded frame; counted by an open window (R124), and no end of stream mode. -/
def badFrame (p : Port) (s : State) : State := countRequest p (placeReply p (refuse .badFrame) (raiseFrameError p s))

def execBadFrame (p : Port) (s : State) : Host.Outcome State Fault Refusal := .next (event (badFrame p) s)

/-- R193: a name that is not in the catalogue. -/
def execUnknownCommandName (p : Port) (s : State) : Host.Outcome State Fault Refusal :=
  .next (request p onAny (fun s => (s, refuse .badValue)) s)

/-- R196. -/
def fetchEvents (p : Port) (s : State) : State × Reply := (clearEvents p s, ok [.byte (eventCode p s)])

def execFetchEvents (p : Port) (s : State) : Host.Outcome State Fault Refusal := .next (request p onAny (fetchEvents p) s)

def execReadStatus (p : Port) (s : State) : Host.Outcome State Fault Refusal :=
  .next (request p onAny (fun s => (s, ok (readStatusVals s))) s)

/-- R197. -/
def setTime (n : Nat) (s : State) : State × Reply :=
  if maxWord < n then (s, refuse .badValue)
  else (s.modPort fun u => { u with clock := n, clockSet := true }, ok [.num n])

def execSetTime (p : Port) (a : Option Nat) (s : State) : Host.Outcome State Fault Refusal :=
  .next (request p onSales (withArgs a setTime) s)

/-- R198. -/
def setStationId (n : Nat) (s : State) : State × Reply :=
  if n < 1 ∨ 65535 < n then (s, refuse .badValue)
  else if s.port.idWritten then (s, refuse .notAllowed)
  else (s.modPort fun u => { u with stationId := n, idWritten := true }, ok [.num n])

def execSetStationId (p : Port) (a : Option Nat) (s : State) : Host.Outcome State Fault Refusal :=
  .next (request p onPlant (withArgs a setStationId) s)

/-- R197: after 4,294,967,295 the clock wraps to 0. -/
def clockTick (s : State) : State := s.modPort fun u => { u with clock := (u.clock + 1) % 4294967296 }

def execStationClockTick (s : State) : Host.Outcome State Fault Refusal := .next (event clockTick s)

end Sys2Proof.Machine
end

