-- ==== Sys2Proof/Machine/RampCommands.lean ====
section
/-! DEFINITION. The Ramp Engine's command and clock (R55, R56, R60). -/

namespace Sys2Proof.Machine

/-! ### PROFILE_LOAD (R56) -/

/-- The first value of a list that lies outside a range, with its place. -/
def firstOut (lo hi : Nat) : Nat → List Nat → Option Nat
  | _, [] => none
  | n, x :: xs => if x < lo ∨ hi < x then some n else firstOut lo hi (n + 1) xs

/-- R56, third check: the first value out of its range of R55, in payload order, as the field, and for cells and target pressures
the band and class. For a target pressure, which has no cold class, that is the hose class (assumption 27); the
field is its position in the table (assumption 33). -/
def profileOut (h : HoseClass) (a : ProfileArgs) : Option (List Val) :=
  if a.dpUp < 100 ∨ 1500 < a.dpUp then some [.byte 0]
  else if a.dpLow < 100 ∨ 1500 < a.dpLow then some [.byte 1]
  else if a.targetSoc < 900 ∨ 1000 < a.targetSoc then some [.byte 2]
  else if a.nominalMass < 1000 ∨ 100000 < a.nominalMass then some [.byte 3]
  else
    match firstOut 0 6000 0 a.cells with
    | some n => some [.byte 4, .num (n / 4), .byte (n % 4)]
    | none =>
      match firstOut 1000 (hoseLimit h) 0 a.targets with
      | some n => some [.byte 5, .num n, .byte (hoseClassCode h)]
      | none => none

/-- R56, fourth check: the first band of an H70 profile whose N cell is not 0. -/
def coldCellBand (h : HoseClass) (a : ProfileArgs) : Option Nat :=
  match h with
  | .h35 => none
  | .h70 => (List.range 6).find? fun i => a.cells.getD (4 * i + 3) 0 != 0

def bandOf (a : ProfileArgs) (i : Nat) : BandRow :=
  { a := a.cells.getD (4 * i) 0, b := a.cells.getD (4 * i + 1) 0, c := a.cells.getD (4 * i + 2) 0,
    n := a.cells.getD (4 * i + 3) 0, target := a.targets.getD i 0 }

def profileOf (a : ProfileArgs) : Profile :=
  { valid := true, dpUp := a.dpUp, dpLow := a.dpLow, targetSoc := a.targetSoc, nominalMass := a.nominalMass,
    bands := (List.range 6).map (bandOf a) }

def setProfile (h : HoseClass) (x : Profile) (s : State) : State :=
  match h with
  | .h70 => { s with ramp := { s.ramp with h70 := x } }
  | .h35 => { s with ramp := { s.ramp with h35 := x } }

/-- R56, second check: a session of the class that is not IDLE. -/
def classRunning (s : State) (h : HoseClass) : Bool :=
  Disp.all.any fun d => (s.sess d).hoseClass == some h && (s.sess d).phase != .idle

/-- R56, first check. -/
def profileFormed (a : ProfileArgs) : Bool := decide (a.cells.length = 24) && decide (a.targets.length = 6)

def profileLoad (a : Option ProfileArgs) (s : State) : State × Reply :=
  match a, a.bind fun x => hoseClassOf x.hoseClass with
  | some a, some h =>
    if !profileFormed a then (s, refuseWith .badValue [.byte 0])
    else if classRunning s h then (s, refuse .busy)
    else
      match profileOut h a with
      | some at' => (s, refuseWith .badValue (.byte 1 :: at'))
      | none =>
        match coldCellBand h a with
        | some i => (s, refuseWith .badValue [.byte 2, .num i])
        | none => (setProfile h (profileOf a) s, ok (.byte (hoseClassCode h) :: profileVals (profileOf a)))
  | _, _ => (s, refuseWith .badValue [.byte 0])

def execProfileLoad (p : Port) (a : Option ProfileArgs) (s : State) : Host.Outcome State Fault Refusal :=
  .next (request p onPlant (profileLoad a) s)

/-! ### The ramp clock (R60) -/

/-- R60: one tenth of a second in FLOWING; the clock stops at 65535. -/
def rampTick (d : Disp) (s : State) : State :=
  if (s.sess d).phase = .flowing then
    s.modSess d fun r => { r with rampClock := min (r.rampClock + 1) 65535, rampPart := 0 }
  else s

def execRampClockTick (d : Disp) (s : State) : Host.Outcome State Fault Refusal := .next (event (rampTick d) s)

end Sys2Proof.Machine
end

