-- ==== Sys2Proof/Machine/SessionCommands.lean ====
section
/-! DEFINITION. The Session Units' commands and timers (R24 to R54), with the session timers that the Ramp Engine and the Cold
Reserve Unit keep (R67, R88, R89). -/

namespace Sys2Proof.Machine

/-! ### NOZZLE_ON (R30, R31) -/

/-- R30, second check. -/
def stationReady (s : State) (d : Disp) : Bool :=
  s.fault.mode == .run && s.fault.esdArmed && s.inv.table.state == .valid &&
  (match (s.unit.get d).hoseClass with
   | some h => (s.profile h).valid
   | none => false)

/-- R30, sixth check. -/
def startPressureFits (s : State) (d : Disp) (pressure : Nat) : Bool :=
  match (s.unit.get d).hoseClass with
  | some h => decide (50 ≤ pressure) && decide (pressure < nominalPressure h)
  | none => false

/-- R30: the first check that fails, in order. -/
def nozzleRefusal (s : State) (d : Disp) (pressure : Nat) : Option Status :=
  let u := s.unit.get d
  if u.sess.phase ≠ .idle ∨ u.nozzleOn then some .busy
  else if !stationReady s d then some .notReady
  else if s.fault.locked.get d then some .locked
  else if u.held then some .held
  else if (pendingEntry s d).isNone then some .noAuth
  else if !startPressureFits s d pressure then some .notAllowed
  else if freeSlots s = 0 then some .logFull
  else none

/-- R25: the vehicle record a NOZZLE_ON creates, if it does. -/
def vehicleOf (clock : Nat) (a : NozzleOnArgs) : Option Vehicle :=
  match a.tankVolume, a.tankPressure, a.tankTemperature with
  | some v, some p, some t =>
    if decide (1 ≤ v) && decide (v ≤ 5000) then
      some { volume := v, pressure := takePressure p, temperature := takeTemperature t, time := clock }
    else none
  | _, _, _ => none

/-- R25: whether a tank value had to be brought into range. -/
def tankOut (pressure : Option Nat) (temperature : Option Int) : Bool :=
  (pressure.map pressureOut).getD false || (temperature.map temperatureOut).getD false

/-- R24, third column, with R25 and R59; the state is set on its own. -/
def acceptedSession (s : State) (d : Disp) (e : AuthEntry) (a : NozzleOnArgs) : Session :=
  let u := s.unit.get d
  let v := vehicleOf s.port.clock a
  { Session.reset with
    authNumber := some e.number, hoseClass := u.hoseClass, fillKind := some (if v.isSome then .comm else .nonComm),
    k := s.meter.factor.get d, metrology := s.meter.metrology, budget := e.budget, hosePressure := a.hosePressure,
    vehicle := v, supervision := some u.interval, waitTimer := some 120000,
    tankTimer := if v.isSome then some 5000 else none, startTime := s.port.clock, timeUnset := !s.port.clockSet }

/-- R166, second column. -/
def openSlotOf (e : AuthEntry) (r : Session) : OpenSlot :=
  { authNumber := e.number, account := e.account, group := e.group, line := e.line, price := e.price, limit := e.limit,
    hoseClass := r.hoseClass, startTime := r.startTime, startUnset := r.timeUnset, k := r.k, metrology := r.metrology,
    fillKind := r.fillKind, pulses := 0, classAtStart := none, classNow := none, coldShortfall := false, bankUse := [],
    committing := none }

/-- R31, steps 1 to 7, and the join of step 8. -/
def acceptSession (d : Disp) (e : AuthEntry) (a : NozzleOnArgs) (s : State) : State :=
  let r := acceptedSession s d e a
  let t := s.modUnit d fun u => { u with nozzleOn := true, sess := r }
  let t := reserveSlot (modEntry e.number (fun x => { x with bound := true, timer := none }) t)
  let t := t.modLog fun l => { l with retained := { l.retained with slots := l.retained.slots.set d (some (openSlotOf e r)) } }
  let t := t.modMeter fun m => { m with unaccounted := m.unaccounted.set d 0 }
  (setPhase d .coldWait t).modCold fun c => { c with queue := c.queue ++ [d] }

/-- R31, with the fault of R122 and then that of R25 once the hand-offs are done. Tank values of a NOZZLE_ON that creates no
vehicle record are not kept and raise no fault (assumption 14). -/
def startSession (d : Disp) (e : AuthEntry) (a : NozzleOnArgs) (s : State) : State :=
  let t := tryAdmission (acceptSession d e a s)
  let t := if s.meter.calSwitch then raiseStation .calSwitch t else t
  if (vehicleOf s.port.clock a).isSome && tankOut a.tankPressure a.tankTemperature then raiseDisp .sensorRange d t else t

def nozzleOn (a : NozzleOnArgs) (d : Disp) (s : State) : State × Reply :=
  match nozzleRefusal s d a.hosePressure, pendingEntry s d with
  | some st, _ => (s, refuse st)
  | none, none => (s, refuse .noAuth)
  | none, some e =>
    let t := startSession d e a s
    (t, ok (nozzleOnVals t d))

def execNozzleOn (p : Port) (a : Option NozzleOnArgs) (s : State) : Host.Outcome State Fault Refusal :=
  .next (request p onDisp (withArgs a fun a => withDisp p (nozzleOn a)) s)

/-! ### REPORT (R33 to R36) -/

/-- R33: both tank values, or neither. -/
def reportFormed (a : ReportArgs) : Bool := a.tankPressure.isSome == a.tankTemperature.isSome

/-- R36: the trace with a sample appended, its latest 16. -/
def appendSample (xs : List Sample) (x : Sample) : List Sample :=
  let ys := xs ++ [x]
  ys.drop (ys.length - 16)

/-- R25, R33: the vehicle record after a REPORT. -/
def vehicleAfter (clock : Nat) (a : ReportArgs) (v : Vehicle) : Vehicle :=
  match a.tankPressure, a.tankTemperature with
  | some p, some t => { v with pressure := takePressure p, temperature := takeTemperature t, time := clock }
  | _, _ => v

/-- R33, R36, R67: the session with the values of a REPORT stored. -/
def storeReport (clock interval : Nat) (a : ReportArgs) (r : Session) : Session :=
  let p := takePressure a.hosePressure
  let t := takeTemperature a.hoseTemperature
  let again := r.phase.active && r.fillKind == some .comm && a.tankPressure.isSome
  { r with
    hosePressure := p, hoseTemperature := some t, vehicle := r.vehicle.map (vehicleAfter clock a),
    supervision := r.supervision.map fun _ => interval,
    tankTimer := if again then some 5000 else r.tankTimer, tankLapsed := if again then false else r.tankLapsed,
    trace := appendSample r.trace { clock := r.rampClock, pressure := p, temperature := t } }

/-- R33: whether one of the values a REPORT delivers had to be brought into range. Tank data that the session ignores (R25) are
not looked at (assumption 14). -/
def reportOut (r : Session) (a : ReportArgs) : Bool :=
  pressureOut a.hosePressure || temperatureOut a.hoseTemperature ||
  (r.vehicle.isSome && tankOut a.tankPressure a.tankTemperature)

/-- R33, R34: the values stored, SENSOR_RANGE, and the three hand-offs. -/
def takeReport (d : Disp) (a : ReportArgs) (s : State) : State :=
  let u := s.unit.get d
  let t := s.modSess d (storeReport s.port.clock u.interval a)
  let t := if reportOut u.sess a then raiseDisp .sensorRange d t else t
  laneReport d (deliveryCheck d (rampReport d a.tankPressure.isSome t))

def report (a : ReportArgs) (d : Disp) (s : State) : State × Reply :=
  if !reportFormed a then (s, refuse .badValue)
  else if (s.sess d).phase = .idle then (s, ok reportIdleVals)
  else
    let t := takeReport d a s
    (t, ok (reportVals t d))

def execReport (p : Port) (a : Option ReportArgs) (s : State) : Host.Outcome State Fault Refusal :=
  .next (request p onDisp (withArgs a fun a => withDisp p (report a)) s)

/-! ### STOP_FILL, NOZZLE_OFF, READ_SESSION (R37 to R39) -/

def stopFill (d : Disp) (s : State) : State × Reply :=
  if (s.sess d).phase = .idle then (s, refuse .notAllowed)
  else
    let t := terminate d .stopRequest s
    (t, ok [phaseVal (t.sess d).phase])

def execStopFill (p : Port) (s : State) : Host.Outcome State Fault Refusal := .next (request p onDisp (withDisp p stopFill) s)

def nozzleOff (d : Disp) (s : State) : State × Reply :=
  let t := terminate d .nozzleOff (s.modUnit d fun u => { u with nozzleOn := false })
  (t, ok [phaseVal (t.sess d).phase])

def execNozzleOff (p : Port) (s : State) : Host.Outcome State Fault Refusal := .next (request p onDisp (withDisp p nozzleOff) s)

/-- R39: a dispenser port reads its own dispenser; the plant and sales ports name one. -/
def readSession (p : Port) (a : Option Nat) (s : State) : State × Reply :=
  let named := match a.bind Disp.ofNat? with
    | some d => (s, ok (readSessionVals s d))
    | none => (s, refuse .badValue)
  match p with
  | .disp d => (s, ok (readSessionVals s d))
  | .plant => named
  | .sales => named

def execReadSession (p : Port) (a : Option Nat) (s : State) : Host.Outcome State Fault Refusal :=
  .next (request p onAny (readSession p a) s)

/-! ### SET_DISPENSER, SET_SETTLE, HOLD_SET, HOLD_CLEAR (R41, R47, R51, R52) -/

def setDispenser (a : SetDispenserArgs) (s : State) : State × Reply :=
  match Disp.ofNat? a.disp, hoseClassOf a.hoseClass with
  | some d, some h =>
    if a.interval < 200 ∨ 5000 < a.interval then (s, refuse .badValue)
    else if (s.sess d).phase ≠ .idle then (s, refuse .busy)
    else (s.modUnit d fun u => { u with hoseClass := some h, interval := a.interval },
      ok [.byte (hoseClassCode h), .num a.interval])
  | _, _ => (s, refuse .badValue)

def execSetDispenser (p : Port) (a : Option SetDispenserArgs) (s : State) : Host.Outcome State Fault Refusal :=
  .next (request p onPlant (withArgs a setDispenser) s)

def setSettle (n : Nat) (s : State) : State × Reply :=
  if 5000 < n then (s, refuse .badValue) else ({ s with settleTime := n }, ok [.num n])

def execSetSettle (p : Port) (a : Option Nat) (s : State) : Host.Outcome State Fault Refusal :=
  .next (request p onPlant (withArgs a setSettle) s)

/-- R51, R52: the named dispensers join or leave the held set. -/
def holdTo (held : Bool) (m : Byte) (s : State) : State × Reply :=
  match dispSetOf m with
  | none => (s, refuse .badValue)
  | some ds =>
    let t := ds.foldl (fun x d => x.modUnit d fun u => { u with held := held }) s
    (t, ok [.byte (dispSetCode (t.unit.map (·.held)))])

def execHoldSet (p : Port) (a : Option Byte) (s : State) : Host.Outcome State Fault Refusal :=
  .next (request p onPlantOrSales (withArgs a (holdTo true)) s)

def execHoldClear (p : Port) (a : Option Byte) (s : State) : Host.Outcome State Fault Refusal :=
  .next (request p onPlantOrSales (withArgs a (holdTo false)) s)

/-! ### Timers of a session (R29, R40, R47, R67, R88, R89) -/

/-- R40. -/
def supervisionExpired (d : Disp) (s : State) : State :=
  if (s.sess d).supervision.isSome then raiseDisp .linkLost d (s.modSess d fun r => { r with supervision := none }) else s

def execSupervisionExpiry (d : Disp) (s : State) : Host.Outcome State Fault Refusal := .next (event (supervisionExpired d) s)

/-- R29: the reason of the state whose limit was reached. -/
def waitReason : Phase → Option Reason
  | .coldWait => some .noCold
  | .laneWait => some .noBank
  | .bankWait => some .bankTimeout
  | .idle | .switching | .flowing | .closing | .commitWait => none

def waitExpired (d : Disp) (s : State) : State :=
  if (s.sess d).waitTimer.isSome then
    match waitReason (s.sess d).phase with
    | some reason => terminate d reason s
    | none => s
  else s

def execWaitTimerExpiry (d : Disp) (s : State) : Host.Outcome State Fault Refusal := .next (event (waitExpired d) s)

/-- R48. -/
def settleExpired (d : Disp) (s : State) : State :=
  if (s.sess d).phase = .closing ∧ (s.sess d).settleTimer.isSome then endSettle d s else s

def execSettleTimerExpiry (d : Disp) (s : State) : Host.Outcome State Fault Refusal := .next (event (settleExpired d) s)

/-- R88. -/
def graceExpired (d : Disp) (s : State) : State :=
  if (s.sess d).graceTimer.isSome then s.modSess d fun r => { r with graceTimer := none, checkActive := true } else s

def execPrecoolGraceExpiry (d : Disp) (s : State) : Host.Outcome State Fault Refusal := .next (event (graceExpired d) s)

/-- R89. -/
def exceedExpired (d : Disp) (s : State) : State :=
  if (s.sess d).exceedTimer.isSome then
    downgrade d .deliveryTemperature (s.modSess d fun r => { r with exceedTimer := none })
  else s

def execExceedanceExpiry (d : Disp) (s : State) : Host.Outcome State Fault Refusal := .next (event (exceedExpired d) s)

/-- R67. -/
def tankDataExpired (d : Disp) (s : State) : State :=
  if (s.sess d).tankTimer.isSome then s.modSess d fun r => { r with tankTimer := none, tankLapsed := true } else s

def execTankDataExpiry (d : Disp) (s : State) : Host.Outcome State Fault Refusal := .next (event (tankDataExpired d) s)

end Sys2Proof.Machine
end

