-- ==== Sys2Proof/Config.lean ====
section
/-! DEFINITION. What the spec leaves open as a value: the free value. -/

namespace Sys2Proof.Config

/-- The n-th value that nothing constrains (assumption 1). R166 says that the retained memory keeps its contents as long as the
backup supply holds, and not what it reads when the supply has failed: the release pointer and the totalizers then hold
these. No body: no proof can know one. -/
opaque freeWord : Nat → BitVec 32

end Sys2Proof.Config
end

