-- ==== Sys2Proof/Machine/SupplyEvents.lean ====
section
/-! DEFINITION. The two resets, the loss of main power and the loss of the backup supply (R54, R91, R115, R128, R143, R152, R166,
R181, R187, R191). -/

namespace Sys2Proof.Machine

/-- R115, R128: the Meter Unit after either reset; the settings area and the level of the switch input stand. -/
def MeterUnit.afterReset (m : MeterUnit) : MeterUnit := { m with unaccounted := .same 0, window := 0 }

/-- R181: the Fault Monitor after a warm reset; the sticky state and the level of the ESD input stand. -/
def FaultMonitor.afterWarmReset (f : FaultMonitor) : FaultMonitor :=
  { f with mode := .starting, demand := false, locked := .same false }

/-- Every volatile piece of state at its reset value; the sticky state as given; the array, an operation in progress, the retained
memory, the settings area and the levels of the inputs stand. -/
def volatileReset (port : PortUnit) (fault : FaultMonitor) (s : State) : State :=
  { port := port, inv := .reset, unit := .same .reset, settleTime := 1500, ramp := { h70 := .reset, h35 := .reset },
    cold := .reset, lane := .reset, meter := s.meter.afterReset, auth := .reset,
    log := .reset s.log.array s.log.op s.log.retained, fault := fault, powered := s.powered, freeCount := s.freeCount,
    pending := s.pending }

/-- R181, R198: a power-on reset sets the sticky state to its defaults. -/
def powerOnReset (s : State) : State :=
  { volatileReset (.reset 0 false) (.reset s.fault.esdActive) s with powered := true }

def execPowerOnReset (s : State) : Host.Outcome State Fault Refusal := .next (powerOnReset s)

/-- R181, R187: a warm reset keeps the sticky state; an armed latch with an active input raises ESD_INPUT at once. -/
def warmReset (s : State) : State :=
  let t := volatileReset (.reset s.port.stationId s.port.idWritten) s.fault.afterWarmReset s
  if s.fault.esdArmed && s.fault.esdActive then raiseStation .esdInput t else t

/-- A warm reset is asserted while power is held. -/
def execWarmReset (s : State) : Host.Outcome State Fault Refusal := .next (if s.powered then warmReset s else s)

/-- R46, R152: without main power no session, table or queue is left; an array operation in progress runs on. The values are those
of the power-on reset that must follow (assumption 6). -/
def powerLost (s : State) : State :=
  { volatileReset (.reset 0 false) (.reset s.fault.esdActive) s with powered := false }

def execPowerLoss (s : State) : Host.Outcome State Fault Refusal := .next (powerLost s)

/-- The n-th free value as a number. -/
def freeNat (n : Nat) : Nat := (Config.freeWord n).toNat

/-- R166: the retained memory after the backup supply has failed: the marker no longer holds, and the numbers read as free
values (assumption 1). -/
def lostRetained (n : Nat) : Retained :=
  { marker := false, slots := .same none, release := freeNat n,
    totalizers := { d0 := freeNat (n + 1), d1 := freeNat (n + 2), d2 := freeNat (n + 3), d3 := freeNat (n + 4) } }

/-- The backup supply fails. The retained memory is lost at once, with main power applied or without it, which is the model's
reading (assumption 35). -/
def backupLost (s : State) : State :=
  { s with log := { s.log with retained := lostRetained s.freeCount }, freeCount := s.freeCount + 5 }

def execBackupSupplyLoss (s : State) : Host.Outcome State Fault Refusal := .next (backupLost s)

end Sys2Proof.Machine
end

