-- ==== Sys2Proof/Machine/Dispatch.lean ====
section
/-! DEFINITION. The meaning of each command: one arm per constructor of Instr. -/

namespace Sys2Proof.Machine

def exec (i : Instr) (s : State) : Host.Outcome State Fault Refusal :=
  match i with
  | .powerOnReset => Sys2Proof.Machine.execPowerOnReset s
  | .warmReset => Sys2Proof.Machine.execWarmReset s
  | .meterPulse d => Sys2Proof.Machine.execMeterPulse d s
  | .calSwitchChange asserted => Sys2Proof.Machine.execCalSwitchChange asserted s
  | .esdInputChange active => Sys2Proof.Machine.execEsdInputChange active s
  | .emptyFrame p => Sys2Proof.Machine.execEmptyFrame p s
  | .badFrame p => Sys2Proof.Machine.execBadFrame p s
  | .unknownCommandName p => Sys2Proof.Machine.execUnknownCommandName p s
  | .bankConfig p a => Sys2Proof.Machine.execBankConfig p a s
  | .bankReport p a => Sys2Proof.Machine.execBankReport p a s
  | .isolateSet p a => Sys2Proof.Machine.execIsolateSet p a s
  | .isolateClear p a => Sys2Proof.Machine.execIsolateClear p a s
  | .clearBank p a => Sys2Proof.Machine.execClearBank p a s
  | .tableBegin p => Sys2Proof.Machine.execTableBegin p s
  | .tableRow p a => Sys2Proof.Machine.execTableRow p a s
  | .tableEnd p => Sys2Proof.Machine.execTableEnd p s
  | .ambientReport p a => Sys2Proof.Machine.execAmbientReport p a s
  | .compressorReport p a => Sys2Proof.Machine.execCompressorReport p a s
  | .readBanks p => Sys2Proof.Machine.execReadBanks p s
  | .nozzleOn p a => Sys2Proof.Machine.execNozzleOn p a s
  | .report p a => Sys2Proof.Machine.execReport p a s
  | .stopFill p => Sys2Proof.Machine.execStopFill p s
  | .nozzleOff p => Sys2Proof.Machine.execNozzleOff p s
  | .readSession p a => Sys2Proof.Machine.execReadSession p a s
  | .setDispenser p a => Sys2Proof.Machine.execSetDispenser p a s
  | .setSettle p a => Sys2Proof.Machine.execSetSettle p a s
  | .holdSet p a => Sys2Proof.Machine.execHoldSet p a s
  | .holdClear p a => Sys2Proof.Machine.execHoldClear p a s
  | .profileLoad p a => Sys2Proof.Machine.execProfileLoad p a s
  | .coldConfig p a => Sys2Proof.Machine.execColdConfig p a s
  | .coldSet p a => Sys2Proof.Machine.execColdSet p a s
  | .chillerReport p a => Sys2Proof.Machine.execChillerReport p a s
  | .laneSettings p a => Sys2Proof.Machine.execLaneSettings p a s
  | .refillStop p a => Sys2Proof.Machine.execRefillStop p a s
  | .valveReport p a => Sys2Proof.Machine.execValveReport p a s
  | .calUnlock p => Sys2Proof.Machine.execCalUnlock p s
  | .setMeterFactor p a => Sys2Proof.Machine.execSetMeterFactor p a s
  | .setPrice p a => Sys2Proof.Machine.execSetPrice p a s
  | .clearPrice p a => Sys2Proof.Machine.execClearPrice p a s
  | .authorize p a => Sys2Proof.Machine.execAuthorize p a s
  | .cancelAuth p a => Sys2Proof.Machine.execCancelAuth p a s
  | .revoke p a => Sys2Proof.Machine.execRevoke p a s
  | .readAuth p a => Sys2Proof.Machine.execReadAuth p a s
  | .exportStart p a => Sys2Proof.Machine.execExportStart p a s
  | .exportNext p => Sys2Proof.Machine.execExportNext p s
  | .release p a => Sys2Proof.Machine.execRelease p a s
  | .readLogStatus p => Sys2Proof.Machine.execReadLogStatus p s
  | .setSeverity p a => Sys2Proof.Machine.execSetSeverity p a s
  | .clearFaults p a => Sys2Proof.Machine.execClearFaults p a s
  | .countSelect p a => Sys2Proof.Machine.execCountSelect p a s
  | .readFaults p => Sys2Proof.Machine.execReadFaults p s
  | .armEsd p => Sys2Proof.Machine.execArmEsd p s
  | .restart p => Sys2Proof.Machine.execRestart p s
  | .clearLock p a => Sys2Proof.Machine.execClearLock p a s
  | .fetchEvents p => Sys2Proof.Machine.execFetchEvents p s
  | .readStatus p => Sys2Proof.Machine.execReadStatus p s
  | .setTime p a => Sys2Proof.Machine.execSetTime p a s
  | .setStationId p a => Sys2Proof.Machine.execSetStationId p a s
  | .bankStalenessExpiry b => Sys2Proof.Machine.execBankStalenessExpiry b s
  | .ambientStalenessExpiry => Sys2Proof.Machine.execAmbientStalenessExpiry s
  | .chillerStalenessExpiry => Sys2Proof.Machine.execChillerStalenessExpiry s
  | .supervisionExpiry d => Sys2Proof.Machine.execSupervisionExpiry d s
  | .waitTimerExpiry d => Sys2Proof.Machine.execWaitTimerExpiry d s
  | .settleTimerExpiry d => Sys2Proof.Machine.execSettleTimerExpiry d s
  | .precoolGraceExpiry d => Sys2Proof.Machine.execPrecoolGraceExpiry d s
  | .exceedanceExpiry d => Sys2Proof.Machine.execExceedanceExpiry d s
  | .tankDataExpiry d => Sys2Proof.Machine.execTankDataExpiry d s
  | .yieldTimerExpiry d => Sys2Proof.Machine.execYieldTimerExpiry d s
  | .authExpiry number => Sys2Proof.Machine.execAuthExpiry number s
  | .rechargeStep => Sys2Proof.Machine.execRechargeStep s
  | .rampClockTick d => Sys2Proof.Machine.execRampClockTick d s
  | .stationClockTick => Sys2Proof.Machine.execStationClockTick s
  | .switchCompletion c => Sys2Proof.Machine.execSwitchCompletion c s
  | .commitCompletion => Sys2Proof.Machine.execCommitCompletion s
  | .eraseCompletion => Sys2Proof.Machine.execEraseCompletion s
  | .scanCompletion => Sys2Proof.Machine.execScanCompletion s
  | .backupSupplyLoss => Sys2Proof.Machine.execBackupSupplyLoss s
  | .powerLoss => Sys2Proof.Machine.execPowerLoss s

end Sys2Proof.Machine
end

