-- ==== Sys2Proof/Machine/Time.lean ====
section
/-! DEFINITION. The passing of one millisecond of main power, which is what a step with no command waiting does (assumption 4):
every running timer counts down, to 0 and no further; the part of a tenth of a session in FLOWING and the time a waiter has spent on
the list grow. The expiry of a timer is a command of its own. -/

namespace Sys2Proof.Machine

/-- A timer with one millisecond less left; a stopped one stays stopped. -/
def tickTimer (t : Option Nat) : Option Nat := t.map (· - 1)

/-- R60: the part of a tenth accrues in FLOWING alone. -/
def Session.tick (r : Session) : Session :=
  { r with
    rampPart := if r.phase = .flowing then min (r.rampPart + 1) 99 else r.rampPart,
    supervision := tickTimer r.supervision, waitTimer := tickTimer r.waitTimer, settleTimer := tickTimer r.settleTimer,
    graceTimer := tickTimer r.graceTimer, exceedTimer := tickTimer r.exceedTimer, tankTimer := tickTimer r.tankTimer }

def SessionUnit.tick (u : SessionUnit) : SessionUnit := { u with sess := u.sess.tick, switchTimer := tickTimer u.switchTimer }

def Inventory.tick (i : Inventory) : Inventory :=
  { i with
    banks := i.banks.map fun e => { e with staleTimer := tickTimer e.staleTimer },
    ambient := { i.ambient with staleTimer := tickTimer i.ambient.staleTimer } }

/-- R99: a waiter's yield timer and its time on the list. -/
def Waiter.tick (w : Waiter) : Waiter := { w with yieldTimer := tickTimer w.yieldTimer, waited := w.waited + 1 }

def LaneArbiter.tick (l : LaneArbiter) : LaneArbiter :=
  { l with
    waitList := l.waitList.map Waiter.tick,
    refill := { l.refill with switchTimer := tickTimer l.refill.switchTimer } }

def ColdReserve.tick (c : ColdReserve) : ColdReserve :=
  { c with
    rechargeTimer := c.rechargeTimer - 1,
    chiller := { c.chiller with staleTimer := tickTimer c.chiller.staleTimer } }

def AuthTable.tick (a : AuthTable) : AuthTable :=
  { a with entries := a.entries.map fun e => { e with timer := tickTimer e.timer } }

/-- One millisecond passes. -/
def passTime (s : State) : State :=
  if s.powered then
    { s with
      inv := s.inv.tick, unit := s.unit.map SessionUnit.tick, lane := s.lane.tick, cold := s.cold.tick,
      auth := s.auth.tick }
  else s

end Sys2Proof.Machine
end

