-- ==== Sys2Proof/Machine/Step.lean ====
section
/-! DEFINITION. One step of the part: the command at the front of the queue, or, with none waiting, one millisecond. -/

namespace Sys2Proof.Machine

/-- The command at the front is taken and carried out with the rest of the queue waiting; with no command waiting, time passes
(assumption 4). -/
def step (s : State) : Host.Outcome State Fault Refusal :=
  match s.pending with
  | [] => .next (passTime s)
  | i :: rest => exec i { s with pending := rest }

/-- The command that a word spells, put at the front of the queue; s itself where it spells none (assumption 7). -/
def State.withFetchWord (s : State) (nbits w : Nat) : State :=
  match decodeTableWord nbits w with
  | none => s
  | some i => { s with pending := i :: s.pending }

end Sys2Proof.Machine
end

