-- ==== Sys2Proof/Safety.lean ====
section
/-! DEFINITION. What a lawful state of the part is, in the terms the statements use: the laws the spec gives for every moment, as
checks of a state; and the catalogue of commands (after R199). -/

namespace Sys2Proof.Machine

/-! ### The cold reserve (R76) -/

/-- R76: the sum of the claims is at most the reserve, and the reserve at most the capacity. -/
def claimsLawful (s : State) : Bool :=
  decide (claimSum s ≤ s.cold.reserve) && decide (s.cold.reserve ≤ s.cold.config.capacity)

/-! ### Attention lines (R195, R124) -/

def allPorts : List Port := [.disp .d0, .disp .d1, .disp .d2, .disp .d3, .plant, .sales]

/-- R195: each line is asserted exactly while its set is not empty, but for the plant port's while the window is open. -/
def linesLawful (s : State) : Bool := allPorts.all fun p => s.port.attention.get p == lineWanted s p

/-! ### Session mass (R117) -/

/-- R117: every session's mass is the floor of its pulse count times 1000 by its frozen factor. -/
def massesLawful (s : State) : Bool := Disp.all.all fun d => (s.sess d).mass == massOf (s.sess d).pulses (s.sess d).k

/-! ### Severities (R171, R172) -/

/-- R171: no kind stands below its least severity. -/
def severitiesLawful (s : State) : Bool :=
  faultKinds.all fun k => decide (severityCode (leastSeverity k) ≤ severityCode (s.fault.severity.get k))

/-! ### The record array (R151) -/

/-- Slots strictly rising and below 2048, a commit in progress in a slot of the array, and a write position in it. -/
def arrayLawful (s : State) : Bool :=
  Memory.wf s.log.array &&
  (match s.log.op with
   | .committing _ slot _ => decide (slot < 2048)
   | .idle => true
   | .erasing _ => true) &&
  (match s.log.view with
   | some v => decide (v.writePos < 2048)
   | none => true)

/-! ### Authorizations (R132, R135, R137) -/

/-- R149: entries stand in strictly ascending order of number. -/
def entriesAscend : List AuthEntry → Bool
  | [] => true
  | [_] => true
  | e :: e' :: es => decide (e.number < e'.number) && entriesAscend (e' :: es)

/-- R132: no two entries are for one dispenser. -/
def entriesApart : List AuthEntry → Bool
  | [] => true
  | e :: es => es.all (fun x => x.disp != e.disp) && entriesApart es

/-- R132, R137: one entry's number is in range, and its expiry timer runs exactly while it is PENDING. -/
def entryLawful (e : AuthEntry) : Bool :=
  decide (1 ≤ e.number) && decide (e.number ≤ 65535) && e.timer.isSome == !e.bound

def authLawful (s : State) : Bool :=
  entriesAscend s.auth.entries && entriesApart s.auth.entries && s.auth.entries.all entryLawful &&
  decide (s.auth.entries.length ≤ 16) && decide (s.auth.lastNumber ≤ 65535)

/-! ### Sessions, permits and the lists they wait in (R27, R42, R82, R94, R99, R158) -/

/-- R42: when a dispenser's permit line is asserted. -/
def permitWanted (s : State) (d : Disp) : Bool :=
  let r := s.sess d
  s.fault.mode != .shutdown &&
  (match r.phase with
   | .flowing => true
   | .switching => r.flowBegun
   | .bankWait => r.flowBegun
   | .idle | .coldWait | .laneWait | .closing | .commitWait => false)

/-- R42. -/
def permitsLawful (s : State) : Bool := Disp.all.all fun d => (s.unit.get d).permit == permitWanted s d

/-- R29, R42: the flow-begun flag is clear in COLD_WAIT and LANE_WAIT, and set in FLOWING and BANK_WAIT. -/
def flowFlagLawful (r : Session) : Bool :=
  match r.phase with
  | .flowing | .bankWait => r.flowBegun
  | .coldWait | .laneWait => !r.flowBegun
  | .idle | .switching | .closing | .commitWait => true

/-- R93, R94, R103: a lane is held in SWITCHING and FLOWING alone, and a switch is in flight only toward a lane in SWITCHING. -/
def laneFieldLawful (u : SessionUnit) : Bool :=
  (u.sess.currentBank.isNone || u.sess.phase == .switching || u.sess.phase == .flowing) &&
  (u.switchTimer.isNone || (u.sess.phase == .switching && u.sess.currentBank.isSome))

/-- R27, R53: no session is before CLOSING on a LOCKED dispenser, or in SHUTDOWN. -/
def activeAllowed (s : State) (d : Disp) : Bool :=
  !(s.sess d).phase.active || (!s.fault.locked.get d && s.fault.mode != .shutdown)

/-- R82, R99: the admission queue holds sessions in COLD_WAIT, and the lane wait list sessions in LANE_WAIT or BANK_WAIT. -/
def waitingLawful (s : State) : Bool :=
  (s.cold.queue.all fun d => (s.sess d).phase == .coldWait) &&
  (s.lane.waitList.all fun w => (s.sess w.disp).phase == .laneWait || (s.sess w.disp).phase == .bankWait)

/-- The sessions whose records are committing, queued or offered (R156). -/
def recordSources (l : LogController) : List Disp :=
  (((match l.op with
     | .committing e _ _ => if l.carried then [] else [e]
     | .idle => []
     | .erasing _ => []) ++ l.queue ++ l.offers).filterMap fun e =>
    match e.source with
    | .session d => some d
    | .recovered _ => none
    | .calibration => none)

def apart : List Disp → Bool
  | [] => true
  | d :: ds => !ds.contains d && apart ds

/-- R48, R49: a session has one record on its way, and waits for it in COMMIT_WAIT. -/
def recordsLawful (s : State) : Bool :=
  apart (recordSources s.log) && (recordSources s.log).all fun d => (s.sess d).phase == .commitWait

/-- The laws of the sessions together. -/
def sessionsLawful (s : State) : Bool :=
  permitsLawful s && (Disp.all.all fun d => flowFlagLawful (s.sess d) && laneFieldLawful (s.unit.get d) && activeAllowed s d) &&
  waitingLawful s && recordsLawful s

/-! ### Lanes and valves (R92, R106) -/

/-- R92: the lane holder of a bank and the current bank of a session are two views of one lane. -/
def dispLanesLawful (s : State) : Bool :=
  Disp.all.all fun d => Bank.all.all fun b =>
    ((s.bank b).holder == some (.disp d)) == ((s.sess d).currentBank == some b)

/-- R92, R108: the lane of the compressor and the bank of the refill record are two views of one lane; the record names a bank
exactly while a run is on. -/
def refillLaneLawful (s : State) : Bool :=
  (Bank.all.all fun b => ((s.bank b).holder == some .compressor) == (s.lane.refill.bank == some b)) &&
  ((s.lane.refill.state == .none) == s.lane.refill.bank.isNone) &&
  (s.lane.refill.switchTimer.isNone || s.lane.refill.state == .switching)

/-- Whether a consumer's switch is in flight. -/
def switchInFlight (s : State) : Consumer → Bool
  | .disp d => (s.unit.get d).switchTimer.isSome
  | .compressor => s.lane.refill.switchTimer.isSome

def allConsumers : List Consumer := [.disp .d0, .disp .d1, .disp .d2, .disp .d3, .compressor]

/-- R92: a route valve is open only for a lane whose switch has completed. -/
def valvesLawful (s : State) : Bool :=
  Bank.all.all fun b => allConsumers.all fun c =>
    !(s.lane.valves.get b).get c || ((s.bank b).holder == some c && !switchInFlight s c)

def lanesLawful (s : State) : Bool := dispLanesLawful s && refillLaneLawful s && valvesLawful s

/-! ### Refill requests (R106) -/

/-- R106: the queue stands in its order, by tier, request time and number; so no bank is in it twice. -/
def queueOrdered (s : State) : List Bank → Bool
  | [] => true
  | b :: bs => bs.all (queueBefore s b ((s.bank b).requestTime.getD 0)) && queueOrdered s bs

/-- R106: the refill queue is in order and holds only banks IN_SERVICE without a lane holder, and a bank entry has a refill request
time exactly while its bank is queued. -/
def queueLawful (s : State) : Bool :=
  queueOrdered s s.lane.refillQueue &&
  (s.lane.refillQueue.all fun b => (s.bank b).service == .inService && (s.bank b).holder == none) &&
  Bank.all.all fun b => (s.bank b).requestTime.isSome == s.lane.refillQueue.contains b

/-- R106: the deferred refill list holds each bank once, while a dispenser holds its lane. -/
def deferredLawful (s : State) : Bool :=
  decide (s.lane.deferred.map (·.bank)).Nodup &&
  s.lane.deferred.all fun x => match (s.bank x.bank).holder with
    | some (.disp _) => true
    | some .compressor => false
    | none => false

def requestsLawful (s : State) : Bool := queueLawful s && deferredLawful s

/-! ### Waiting sessions (R100) -/

/-- R100: no waiter is left on the list while a bank that is eligible for it is free. -/
def waitersServed (s : State) : Bool :=
  s.lane.waitList.all fun w => !(Bank.all.any fun b => eligible s w.disp b && bankFree s b)

/-! ### The checks of the gas-property table (R14) -/

/-- R14: every row received, column 0 zero, rising along the rows, falling down the columns, and both reference densities at
least 1. -/
def GasTable.passes (t : GasTable) : Prop :=
  (∀ r < 6, ∃ row, t.rows[r]? = some row ∧ row.received = true) ∧
  (∀ r < 6, gasCell t r 0 = 0) ∧
  (∀ r < 6, ∀ c < 9, gasCell t r c ≤ gasCell t r (c + 1)) ∧
  (∀ r < 5, ∀ c < 10, gasCell t (r + 1) c ≤ gasCell t r c) ∧
  1 ≤ referenceDensity t .h70 ∧ 1 ≤ referenceDensity t .h35

/-! ### The catalogue (after R199) -/

/-- The port of a request, and the ports the catalogue lists for its command; none for what is no request. -/
def requestPort : Instr → Option (Port × (Port → Bool))
  | .bankConfig p _ => some (p, onPlant)
  | .bankReport p _ => some (p, onPlant)
  | .isolateSet p _ => some (p, onPlant)
  | .isolateClear p _ => some (p, onPlant)
  | .clearBank p _ => some (p, onPlant)
  | .tableBegin p => some (p, onPlant)
  | .tableRow p _ => some (p, onPlant)
  | .tableEnd p => some (p, onPlant)
  | .ambientReport p _ => some (p, onPlant)
  | .compressorReport p _ => some (p, onPlant)
  | .readBanks p => some (p, onPlantOrSales)
  | .nozzleOn p _ => some (p, onDisp)
  | .report p _ => some (p, onDisp)
  | .stopFill p => some (p, onDisp)
  | .nozzleOff p => some (p, onDisp)
  | .readSession p _ => some (p, onAny)
  | .setDispenser p _ => some (p, onPlant)
  | .setSettle p _ => some (p, onPlant)
  | .holdSet p _ => some (p, onPlantOrSales)
  | .holdClear p _ => some (p, onPlantOrSales)
  | .profileLoad p _ => some (p, onPlant)
  | .coldConfig p _ => some (p, onPlant)
  | .coldSet p _ => some (p, onPlant)
  | .chillerReport p _ => some (p, onPlant)
  | .laneSettings p _ => some (p, onPlant)
  | .refillStop p _ => some (p, onPlant)
  | .valveReport p _ => some (p, onPlant)
  | .calUnlock p => some (p, onPlant)
  | .setMeterFactor p _ => some (p, onPlant)
  | .setPrice p _ => some (p, onSales)
  | .clearPrice p _ => some (p, onSales)
  | .authorize p _ => some (p, onSales)
  | .cancelAuth p _ => some (p, onSales)
  | .revoke p _ => some (p, onSales)
  | .readAuth p _ => some (p, onPlantOrSales)
  | .exportStart p _ => some (p, onSales)
  | .exportNext p => some (p, onSales)
  | .release p _ => some (p, onSales)
  | .readLogStatus p => some (p, onPlantOrSales)
  | .setSeverity p _ => some (p, onPlant)
  | .clearFaults p _ => some (p, onPlant)
  | .countSelect p _ => some (p, onPlant)
  | .readFaults p => some (p, onPlantOrSales)
  | .armEsd p => some (p, onPlant)
  | .restart p => some (p, onPlant)
  | .clearLock p _ => some (p, onPlant)
  | .fetchEvents p => some (p, onAny)
  | .readStatus p => some (p, onAny)
  | .setTime p _ => some (p, onSales)
  | .setStationId p _ => some (p, onPlant)
  | .unknownCommandName p => some (p, onAny)
  | .powerOnReset | .warmReset | .meterPulse _ | .calSwitchChange _ | .esdInputChange _ | .emptyFrame _ | .badFrame _
  | .bankStalenessExpiry _ | .ambientStalenessExpiry | .chillerStalenessExpiry | .supervisionExpiry _ | .waitTimerExpiry _
  | .settleTimerExpiry _ | .precoolGraceExpiry _ | .exceedanceExpiry _ | .tankDataExpiry _ | .yieldTimerExpiry _
  | .authExpiry _ | .rechargeStep | .rampClockTick _ | .stationClockTick | .switchCompletion _ | .commitCompletion
  | .eraseCompletion | .scanCompletion | .backupSupplyLoss | .powerLoss => none

/-- R162, R163: the refused requests that leave stream mode on: an EXPORT_START whose number is out of bounds, and an
EXPORT_NEXT. -/
def keepsStream (i : Instr) (r : Reply) : Bool :=
  match i with
  | .exportStart _ (some (some _)) => r.status == .badValue
  | .exportNext _ => true
  | _ => false

/-- R123: a CAL_UNLOCK is not counted by the window. -/
def isUnlock : Instr → Bool
  | .calUnlock _ => true
  | _ => false

/-- The state after a request on a port has been answered with r: the reply in the slot, and the window's count (R124, R191). -/
def answered (p : Port) (r : Reply) (s : State) : State := countRequest p (placeReply p r s)

/-- A request refused with r, which changes nothing else (R194): the stream mode and the window's count as for any request. -/
def refusedAs (i : Instr) (p : Port) (r : Reply) (s : State) : State :=
  let t := if keepsStream i r then s else endStream p s
  if isUnlock i then placeReply p r t else answered p r t

end Sys2Proof.Machine
end

