-- ==== Sys2Proof/Certificates/Slice0/Obligations.lean ====
section
/-! DEFINITION. The statements about the GZ460. A request answered with r leaves answered p r u, where u is the state with the
command's own effect; a refused one leaves refusedAs i p r s. On the sales port a request acts on endStream .sales s (R163). -/

open Sys2Proof Sys2Proof.Machine

/-! ### The step -/

/-- The command at the front of the queue, which is the model's (assumption 7), is taken and carried out with the rest of the queue
waiting. -/
def Obligations.StepRunsFrontCommand : Prop :=
  ∀ (c : Instr) (rest : List Instr) (s : State),
    s.pending = c :: rest → step s = exec c { s with pending := rest }

/-- The model's choice (assumption 4): a step with no command waiting is one millisecond. Every running timer has one millisecond
less left, down to 0; the records, the settings, the events and the replies stand. -/
def Obligations.IdleStepCountsTimersDown : Prop :=
  ∀ s : State, s.pending = [] → s.powered = true →
    ∃ t, step s = .next t ∧
      (∀ d, (t.sess d).supervision = (s.sess d).supervision.map (· - 1) ∧
        (t.sess d).waitTimer = (s.sess d).waitTimer.map (· - 1) ∧
        (t.sess d).settleTimer = (s.sess d).settleTimer.map (· - 1) ∧
        (t.sess d).graceTimer = (s.sess d).graceTimer.map (· - 1) ∧
        (t.sess d).exceedTimer = (s.sess d).exceedTimer.map (· - 1) ∧
        (t.sess d).tankTimer = (s.sess d).tankTimer.map (· - 1) ∧
        (t.unit.get d).switchTimer = (s.unit.get d).switchTimer.map (· - 1) ∧
        (t.sess d).phase = (s.sess d).phase ∧ (t.sess d).rampClock = (s.sess d).rampClock ∧
        (t.sess d).mass = (s.sess d).mass ∧ (t.unit.get d).permit = (s.unit.get d).permit) ∧
      (∀ b, t.bank b = { s.bank b with staleTimer := (s.bank b).staleTimer.map (· - 1) }) ∧
      t.inv.ambient = { s.inv.ambient with staleTimer := s.inv.ambient.staleTimer.map (· - 1) } ∧
      t.cold = { s.cold with
        rechargeTimer := s.cold.rechargeTimer - 1,
        chiller := { s.cold.chiller with staleTimer := s.cold.chiller.staleTimer.map (· - 1) } } ∧
      t.lane.refill = { s.lane.refill with switchTimer := s.lane.refill.switchTimer.map (· - 1) } ∧
      t.lane.waitList.map (·.yieldTimer) = s.lane.waitList.map (fun w => w.yieldTimer.map (· - 1)) ∧
      t.auth.entries = s.auth.entries.map (fun e => { e with timer := e.timer.map (· - 1) }) ∧
      t.lane.valves = s.lane.valves ∧ t.port = s.port ∧ t.ramp = s.ramp ∧ t.meter = s.meter ∧ t.log = s.log ∧
      t.fault = s.fault ∧ t.pending = []

/-- The laws that the statements below say every step keeps hold right after reset. -/
def Obligations.LawsHoldAtReset : Prop :=
  claimsLawful State.reset = true ∧ linesLawful State.reset = true ∧ massesLawful State.reset = true ∧
  severitiesLawful State.reset = true ∧ arrayLawful State.reset = true ∧ authLawful State.reset = true ∧
  sessionsLawful State.reset = true ∧ lanesLawful State.reset = true ∧ requestsLawful State.reset = true ∧
  waitersServed State.reset = true

/-! ### What all requests and frames have in common -/

/-- R193, fourth and fifth checks, and R194: a command on a port outside its roles is refused WRONG_PORT, and one whose payload does
not hold its values in the form of R192 is refused by its own checks. Either changes nothing but the reply slot, the sales port's
stream mode (R163) and the calibration window's count (R124). Where among a command's own checks a payload out of form is found is the
model's reading (assumption 5). -/
def Obligations.WrongPortOrPayloadRefused : Prop :=
  ∀ (i : Instr) (s : State) (p : Port) (roles : Port → Bool),
    requestPort i = some (p, roles) → s.powered = true →
      (roles p = false → exec i s = .next (refusedAs i p (refuse .wrongPort) s)) ∧
      (roles p = true → i.framed = none → (∀ d n, i ≠ .readSession (.disp d) (some n)) →
        ∃ r, r.status ≠ .ok ∧ exec i s = .next (refusedAs i p r s))

/-- R194: a request answered with any status but OK has changed no state but the reply slot, the stream mode and the window's
count, TABLE_END apart. Which refused EXPORT_START keeps stream mode is the model's reading (assumption 21). -/
def Obligations.RefusedRequestChangesNothing : Prop :=
  ∀ (i : Instr) (s t : State) (p : Port) (roles : Port → Bool),
    requestPort i = some (p, roles) → (∀ q, i ≠ .tableEnd q) → s.powered = true → exec i s = .next t →
      (t.port.slots.get p).status ≠ .ok → t = refusedAs i p (t.port.slots.get p) s

/-- R182: at each change of the station mode MODE_CHANGED stands in the event sets of the plant and sales ports, but for the
resets and the loss of power, which empty the sets (R195). -/
def Obligations.ModeChangeAddsEvents : Prop :=
  ∀ (i : Instr) (s t : State),
    i ≠ .powerOnReset → i ≠ .warmReset → i ≠ .powerLoss → exec i s = .next t → t.fault.mode ≠ s.fault.mode →
      t.port.plantEvents.modeChanged = true ∧ t.port.salesEvents.modeChanged = true

/-! ### Inventory Unit -/

/-- R2, R3: BANK_CONFIG. A bank that is IN_SERVICE, in FAULT or held by a lane is refused NOT_ALLOWED; a value out of range BAD_VALUE.
Otherwise the entry becomes the one described, or the reset one, and a change of service state or freshness runs the arbiter pass
(R100), which leaves the described bank, STALE or out of service, as it is. The layout of the entry in the reply is the model's reading
(assumptions 3, 16 and 29). -/
def Obligations.BankConfigDescribesBank : Prop :=
  ∀ (a : BankConfigArgs) (b : Bank) (s : State), s.powered = true →
    let i := Instr.bankConfig .plant (some a)
    let e := s.bank b
    (5 < a.bank → exec i s = .next (refusedAs i .plant (refuse .badValue) s)) ∧
    (Bank.ofNat? a.bank = some b →
      (e.service = .inService ∨ e.service = .fault ∨ e.holder ≠ none →
        exec i s = .next (refusedAs i .plant (refuse .notAllowed) s)) ∧
      (e.service = .unconfigured ∨ e.service = .isolated → e.holder = none →
        (a.configured = false →
          exec i s = .next (answered .plant (ok (bankEntryVals .unconfigured))
            (passIfChanged e b (s.modBank b fun _ => .unconfigured)))) ∧
        (a.configured = true →
          let fits : Prop := 1 ≤ a.volume ∧ a.volume ≤ 20000 ∧ 1000 ≤ a.rated ∧ a.rated ≤ 9000 ∧ 1 ≤ a.tier ∧ a.tier ≤ 3 ∧
            1 ≤ a.serves.toNat ∧ a.serves.toNat ≤ 3 ∧ a.refillStart ≤ 8999 ∧ a.refillStart < a.refillStop ∧
            a.refillStop ≤ a.rated
          let e' : BankEntry :=
            { e with
              configured := true, volume := a.volume, rated := a.rated, tier := a.tier,
              servesH70 := a.serves.getLsbD 0, servesH35 := a.serves.getLsbD 1, refillStart := a.refillStart,
              refillStop := a.refillStop, fresh := false, staleTimer := none,
              service := if s.inv.isolation.get b then .isolated else .inService,
              inventory := if s.inv.table.state = .valid then e.density * a.volume / 100 else e.inventory }
          (¬ fits → exec i s = .next (refusedAs i .plant (refuse .badValue) s)) ∧
          (fits → exec i s = .next (answered .plant (ok (bankEntryVals e')) (passIfChanged e b (s.modBank b fun _ => e')))))))

/-- R4: BANK_REPORT. One to six entries that name different banks are taken in turn: each configured bank named takes the pressure
and temperature brought into range, the clock, FRESH, a full staleness timer and, while the table is VALID, the density and the
inventory. Other banks keep all that. SENSOR_RANGE is raised once for each configured bank named with a value out of range: every
counter of the kind rises by their number, the first of them in the list is the one captured or joins the next-fault set, and above NOTE
each of them becomes FAULT. Any other list is refused BAD_VALUE. That the faults are raised after all values are stored is the model's
reading (assumption 12). -/
def Obligations.BankReportTakesReadings : Prop :=
  ∀ (rs : List BankReading) (s : State), s.powered = true →
    let i := Instr.bankReport .plant (some rs)
    let good : Prop := rs ≠ [] ∧ rs.length ≤ 6 ∧ (∀ r ∈ rs, r.bank ≤ 5) ∧ (rs.map (·.bank)).Nodup
    let out (r : BankReading) : Bool :=
      (Bank.all.any fun b => r.bank == b.toNat && (s.bank b).service != .unconfigured) &&
      (decide (9000 < r.pressure) || decide (r.temperature < -500) || decide (1000 < r.temperature))
    let sev := s.fault.severity.sensorRange
    (¬ good → exec i s = .next (refusedAs i .plant (refuse .badValue) s)) ∧
    (good → ∃ t, exec i s = .next t ∧
      t.port.slots.plant =
        ok [.num (Bank.all.filter fun b => (s.bank b).service != .unconfigured && rs.any fun r => r.bank == b.toNat).length] ∧
      (∀ r ∈ rs, ∀ b, Bank.ofNat? r.bank = some b → (s.bank b).service ≠ .unconfigured →
        let e := t.bank b
        e.pressure = min r.pressure 9000 ∧ e.temperature = max (-500) (min r.temperature 1000) ∧
        e.reportTime = s.port.clock ∧ e.fresh = true ∧ e.staleTimer = some 5000 ∧
        (s.inv.table.state = .valid →
          e.density = densityAt s.inv.table e.pressure e.temperature ∧ e.inventory = e.density * e.volume / 100) ∧
        (s.inv.table.state ≠ .valid → e.density = (s.bank b).density ∧ e.inventory = (s.bank b).inventory)) ∧
      (∀ b, (∀ r ∈ rs, Bank.ofNat? r.bank ≠ some b) ∨ (s.bank b).service = .unconfigured →
        (t.bank b).pressure = (s.bank b).pressure ∧ (t.bank b).temperature = (s.bank b).temperature ∧
        (t.bank b).reportTime = (s.bank b).reportTime ∧ (t.bank b).fresh = (s.bank b).fresh ∧
        (t.bank b).staleTimer = (s.bank b).staleTimer ∧ (t.bank b).density = (s.bank b).density ∧
        (t.bank b).inventory = (s.bank b).inventory) ∧
      (∀ (n : Nat) (x : Counter), s.fault.counters[n]? = some x → x.sel = some .sensorRange →
        t.fault.counters[n]? =
          some { x with value := if rs.any out then min (x.value + (rs.filter out).length) 65535 else x.value }) ∧
      (∀ r b, rs.find? out = some r → Bank.ofNat? r.bank = some b →
        let what (c : Option Context) := c.map fun x => (x.kind, x.site, x.severity)
        t.port.plantEvents.faultRecorded = true ∧
        (sev = .note → s.fault.firstNote = none → what t.fault.firstNote = some (.sensorRange, .bank b, sev)) ∧
        (sev ≠ .note → s.fault.firstSevere = none → what t.fault.firstSevere = some (.sensorRange, .bank b, sev)) ∧
        (sev = .note → s.fault.firstNote ≠ none → t.fault.nextNote.sensorRange = true) ∧
        (sev ≠ .note → s.fault.firstSevere ≠ none → t.fault.nextSevere.sensorRange = true)) ∧
      (sev ≠ .note → ∀ r ∈ rs, out r = true → ∀ b, Bank.ofNat? r.bank = some b → (t.bank b).service = .fault) ∧
      t.inv.isolation = s.inv.isolation ∧ t.inv.table = s.inv.table ∧ t.inv.ambient = s.inv.ambient ∧
      t.inv.compressor = s.inv.compressor ∧ t.log.array = s.log.array ∧ t.ramp = s.ramp ∧
      t.meter.factor = s.meter.factor ∧ t.meter.metrology = s.meter.metrology)

/-- R5, R101, R106, R107, R109, R113: a BANK_REPORT whose values are in range is one bank report to the Lane Arbiter. A run whose bank
is at its refill stop pressure ends with STOP_REACHED; a session whose bank is too close to its hose pressure loses that lane, with the
balance check, here at NOTE; a reported bank leaves the refill queue at its stop pressure. Where no session loses its lane and none
waits, exactly the reported banks below their refill start pressure join the queue, at their places by tier, request time and number,
and the first bank of the queue that is FRESH and free is granted to an AVAILABLE compressor without a run. That a queued bank leaves
at its stop pressure in the joining step, and the order of the releases, are the model's (assumptions 13 and 24). -/
def Obligations.BankReportReachesLanes : Prop :=
  ∀ (rs : List BankReading) (s : State), s.powered = true → lanesLawful s = true → sessionsLawful s = true →
    s.fault.severity.balanceMismatch = .note → rs ≠ [] → rs.length ≤ 6 → (rs.map (·.bank)).Nodup →
    (∀ r ∈ rs, r.bank ≤ 5 ∧ r.pressure ≤ 9000 ∧ -500 ≤ r.temperature ∧ r.temperature ≤ 1000) →
      let now (b : Bank) : Option Nat :=
        if (s.bank b).service = .unconfigured then none else (rs.find? fun r => r.bank == b.toNat).map (·.pressure)
      let full (b : Bank) : Bool := (now b).any fun p => decide ((s.bank b).refillStop ≤ p)
      let met (d : Disp) : Bool :=
        (s.sess d).phase == .flowing && (match (s.sess d).currentBank with
          | some b => (now b).any fun p => decide (p < (s.sess d).hosePressure + s.lane.settings.dpSwitch)
          | none => false)
      let stops : Bool := match s.lane.refill.bank with
        | some b => full b
        | none => false
      let joins (b : Bank) : Bool :=
        (s.bank b).service == .inService && (s.bank b).holder == none && !s.lane.refillQueue.contains b &&
        !(s.lane.deferred.any fun x => x.bank == b) && !full b && (now b).any fun p => decide (p < (s.bank b).refillStart)
      let member (b : Bank) : Bool := joins b || (s.lane.refillQueue.contains b && !full b)
      let asked (b : Bank) : Nat := if joins b then s.port.clock else (s.bank b).requestTime.getD 0
      let before (b c : Bank) : Prop :=
        (s.bank c).tier < (s.bank b).tier ∨
        ((s.bank b).tier = (s.bank c).tier ∧ (asked b < asked c ∨ (asked b = asked c ∧ b.toNat < c.toNat)))
      let offered : Prop := s.inv.compressor.state = .available ∧ (s.lane.refill.state = .none ∨ stops = true)
      let takes (b : Bank) : Prop :=
        member b = true ∧ ((s.bank b).fresh = true ∨ (now b).isSome = true) ∧ (s.bank b).holder = none
      ∃ t, exec (.bankReport .plant (some rs)) s = .next t ∧
        (∀ b, s.lane.refill.bank = some b → stops = true →
          t.lane.refill.outcome = some { bank := b, reason := .stopReached } ∧ (t.lane.valves.get b).get .compressor = false ∧
          (s.lane.refill.state = .running → t.port.plantEvents.refillDone = true)) ∧
        (∀ b, full b = true → b ∉ t.lane.refillQueue) ∧
        (∀ d b, (s.sess d).currentBank = some b → met d = true → ((s.sess d).bankUse.any fun x => x.bank == b) = true →
          (t.lane.valves.get b).get (.disp d) = false ∧ (t.bank b).holder ≠ some (.disp d) ∧
          ((t.sess d).phase = .switching ∨ (t.sess d).phase = .bankWait ∨ (t.sess d).reason = some .banksExhausted) ∧
          (∀ x, (s.sess d).bankUse.getLast? = some x → 500 ≤ x.drawn →
            200 + x.drawn / 50 + (t.bank b).inventory + x.drawn < x.inventoryAtGrant →
              t.port.plantEvents.faultRecorded = true ∧
              (s.fault.firstNote = none → t.fault.firstNote.map (·.kind) = some .balanceMismatch))) ∧
        (∀ d, met d = false → (s.sess d).phase = .flowing → t.sess d = s.sess d) ∧
        ((∀ d, met d = false) →
          t.fault = s.fault ∧
          (s.lane.waitList = [] → s.fault.mode ≠ .shutdown →
            (s.lane.refillQueue.Pairwise before → t.lane.refillQueue.Pairwise before) ∧
            (∀ b, joins b = true → (t.bank b).requestTime = some s.port.clock ∨
              (t.lane.refill.bank = some b ∧ t.lane.refill.requestTime = some s.port.clock)) ∧
            (¬ offered ∨ (∀ b, ¬ takes b) → ∀ b, b ∈ t.lane.refillQueue ↔ member b = true) ∧
            (∀ b, takes b → offered → s.lane.refillQueue.Pairwise before → (∀ c, takes c → c ≠ b → before b c) →
              t.lane.refill.bank = some b ∧ t.lane.refill.state = .switching ∧ (t.bank b).holder = some .compressor ∧
              t.lane.refill.requestTime = (if joins b then some s.port.clock else (s.bank b).requestTime) ∧ (t.bank b).requestTime = none ∧
              ∀ c, c ∈ t.lane.refillQueue ↔ member c = true ∧ c ≠ b)))

/-- R7, R8, R10: the isolation set and the service states. ISOLATE_SET takes its banks out of service and frees their lanes and
requests, here with BALANCE_MISMATCH at NOTE, so that the release faults no bank; ISOLATE_CLEAR and CLEAR_BANK put banks back and
run the arbiter pass. -/
def Obligations.IsolationAndClearBank : Prop :=
  ∀ (s : State), s.powered = true →
    (∀ m : Byte, m.getLsbD 6 = true ∨ m.getLsbD 7 = true →
      exec (.isolateSet .plant (some m)) s =
        .next (refusedAs (.isolateSet .plant (some m)) .plant (refuse .badValue) s) ∧
      exec (.isolateClear .plant (some m)) s =
        .next (refusedAs (.isolateClear .plant (some m)) .plant (refuse .badValue) s)) ∧
    (∀ m : Byte, m.getLsbD 6 = false → m.getLsbD 7 = false →
      (lanesLawful s = true → sessionsLawful s = true → s.fault.severity.balanceMismatch = .note →
        ∃ t, exec (.isolateSet .plant (some m)) s = .next t ∧
          t.port.slots.plant = ok [.byte (bankSetCode t.inv.isolation)] ∧
          ∀ b : Bank,
            t.inv.isolation.get b = (s.inv.isolation.get b || m.getLsbD b.toNat) ∧
            (t.bank b).service =
              (if m.getLsbD b.toNat = true ∧ (s.bank b).service = .inService then .isolated else (s.bank b).service) ∧
            (t.bank b).fresh = (s.bank b).fresh ∧
            (m.getLsbD b.toNat = true → (s.bank b).service = .inService →
              (t.bank b).holder = none ∧ b ∉ t.lane.refillQueue ∧ b ∉ t.lane.deferred.map (·.bank))) ∧
      (∃ t, exec (.isolateClear .plant (some m)) s = .next t ∧
        t.port.slots.plant = ok [.byte (bankSetCode t.inv.isolation)] ∧
        ∀ b : Bank,
          t.inv.isolation.get b = (s.inv.isolation.get b && !m.getLsbD b.toNat) ∧
          (t.bank b).service =
            (if m.getLsbD b.toNat = true ∧ (s.bank b).service = .isolated then .inService else (s.bank b).service) ∧
          (t.bank b).fresh = (s.bank b).fresh ∧ (t.bank b).pressure = (s.bank b).pressure)) ∧
    (∀ n : Nat, 5 < n →
      exec (.clearBank .plant (some n)) s = .next (refusedAs (.clearBank .plant (some n)) .plant (refuse .badValue) s)) ∧
    (∀ (n : Nat) (b : Bank), Bank.ofNat? n = some b →
      ((s.bank b).service ≠ .fault →
        exec (.clearBank .plant (some n)) s =
          .next (refusedAs (.clearBank .plant (some n)) .plant (refuse .notAllowed) s)) ∧
      ((s.bank b).service = .fault →
        let back : Service := if s.inv.isolation.get b then .isolated else .inService
        exec (.clearBank .plant (some n)) s =
          .next (answered .plant (ok [.byte (if s.inv.isolation.get b then 2 else 1)])
            (arbiterPass (s.modBank b fun e => { e with service := back })))))

/-- R12, R13, R14: the load of the gas-property table. TABLE_BEGIN opens it unless a session is not IDLE or the compressor holds a
lane; TABLE_ROW writes a row of ten entries in LOADING; TABLE_END makes it VALID with the densities of every configured bank
recomputed where every check of R14 passes, and otherwise closes the load as INVALID with the first failure. That the failure names H70
where both reference densities are 0 is the model's choice (assumption 26). -/
def Obligations.GasTableLoad : Prop :=
  ∀ (s : State), s.powered = true →
    let t := s.inv.table
    ((∃ d, (s.sess d).phase ≠ .idle) ∨ (∃ b, (s.bank b).holder = some .compressor) →
      exec (.tableBegin .plant) s = .next (refusedAs (.tableBegin .plant) .plant (refuse .busy) s)) ∧
    ((∀ d, (s.sess d).phase = .idle) → (∀ b, (s.bank b).holder ≠ some .compressor) →
      exec (.tableBegin .plant) s =
        .next (answered .plant (ok [])
          (s.modInv fun i =>
            { i with
              table :=
                { t with
                  state := .loading, rows := t.rows.map fun r => { r with received := false }, refH70 := none,
                  refH35 := none } }))) ∧
    (∀ a : TableRowArgs,
      let i := Instr.tableRow .plant (some a)
      let fits : Prop := a.row ≤ 5 ∧ a.entries.length = 10 ∧ ∀ x ∈ a.entries, x ≤ 60000
      (t.state ≠ .loading → exec i s = .next (refusedAs i .plant (refuse .notAllowed) s)) ∧
      (t.state = .loading → ¬ fits → exec i s = .next (refusedAs i .plant (refuse .badValue) s)) ∧
      (t.state = .loading → fits →
        exec i s = .next (answered .plant (ok [])
          (s.modInv fun i =>
            { i with table := { t with rows := t.rows.set a.row { entries := a.entries, received := true } } })))) ∧
    (t.state ≠ .loading → exec (.tableEnd .plant) s = .next (refusedAs (.tableEnd .plant) .plant (refuse .notAllowed) s)) ∧
    (t.state = .loading → t.passes →
      exec (.tableEnd .plant) s =
        .next (answered .plant (ok [.num (densityAt t 7000 150), .num (densityAt t 3500 150)])
          (s.modInv fun i =>
            { i with
              table := { t with state := .valid, refH70 := some (densityAt t 7000 150), refH35 := some (densityAt t 3500 150) },
              banks := i.banks.map fun e =>
                if e.configured then
                  { e with
                    density := densityAt t e.pressure e.temperature,
                    inventory := densityAt t e.pressure e.temperature * e.volume / 100 }
                else e }))) ∧
    (t.state = .loading → ¬ t.passes →
      ∃ x, tableFailure t = some x ∧
        exec (.tableEnd .plant) s =
          .next (answered .plant (refuseWith .badValue (tableFailureVals x))
            (s.modInv fun i =>
              { i with table := { t with state := .invalid, rows := t.rows.map fun r => { r with received := false } } })))

/-- R16 over a table that passes R14: a grid point has the value of its cell, and between the grid points the density rises with
the pressure and falls with the temperature. -/
def Obligations.DensityFollowsTable : Prop :=
  ∀ (t : GasTable), t.passes →
    (∀ i j : Nat, i ≤ 9 → j ≤ 5 → densityAt t (1000 * i) (200 * (j : Int) - 400) = gasCell t j i) ∧
    (∀ (p q : Nat) (k : Int), p ≤ q → densityAt t p k ≤ densityAt t q k) ∧
    (∀ (p : Nat) (k l : Int), k ≤ l → densityAt t p l ≤ densityAt t p k)

/-- R20, R21, R111: the ambient and compressor records. A value out of range is taken at the nearer end and raises SENSOR_RANGE at
the station; a report of FAULT that is new raises COMPRESSOR_FAULT and then ends a refill run, with SHUTDOWN where the fault's own action
has taken the station there; AVAILABLE that is new runs the pass. -/
def Obligations.AmbientAndCompressorReports : Prop :=
  ∀ (s : State), s.powered = true →
    (∀ x : Int,
      let u := s.modInv fun i =>
        { i with ambient := { temperature := max (-500) (min x 1000), time := s.port.clock, fresh := true, staleTimer := some 10000 } }
      (-500 ≤ x → x ≤ 1000 → exec (.ambientReport .plant (some x)) s = .next (answered .plant (ok [.int x]) u)) ∧
      (x < -500 ∨ 1000 < x →
        exec (.ambientReport .plant (some x)) s =
          .next (answered .plant (ok [.int (if x < 0 then -500 else 1000)]) (raiseStation .sensorRange u)))) ∧
    (∀ (n : Nat) (c : CompressorState), compressorStateOf n = some c →
      let old := s.inv.compressor.state
      let u := s.modInv fun i => { i with compressor := { state := c, time := s.port.clock } }
      (c = old ∨ c = .running → exec (.compressorReport .plant (some n)) s = .next (answered .plant (ok []) u)) ∧
      (c = .available → old ≠ .available →
        exec (.compressorReport .plant (some n)) s = .next (answered .plant (ok []) (arbiterPass u))) ∧
      (c = .fault → old ≠ .fault → s.lane.refill.state = .none →
        exec (.compressorReport .plant (some n)) s = .next (answered .plant (ok []) (raiseStation .compressorFault u))) ∧
      (c = .fault → old ≠ .fault → s.lane.refill.state ≠ .none → s.fault.severity.compressorFault ≠ .shutdown →
        ∀ b, s.lane.refill.bank = some b →
          ∃ t, exec (.compressorReport .plant (some n)) s = .next t ∧ t.inv.compressor = u.inv.compressor ∧
            t.port.slots.plant = ok [] ∧ t.port.plantEvents.faultRecorded = true ∧
            (s.lane.refill.state = .running → t.port.plantEvents.refillDone = true) ∧
            t.lane.refill.state = .none ∧ t.lane.refill.outcome = some { bank := b, reason := .compressorFault }) ∧
      (c = .fault → old ≠ .fault → s.lane.refill.state ≠ .none → s.fault.severity.compressorFault = .shutdown →
        s.fault.mode = .run ∨ s.fault.mode = .restricted →
        ∀ b, s.lane.refill.bank = some b →
          ∃ t, exec (.compressorReport .plant (some n)) s = .next t ∧ t.inv.compressor = u.inv.compressor ∧
            t.port.slots.plant = ok [] ∧ t.port.plantEvents.faultRecorded = true ∧ t.fault.mode = .shutdown ∧
            t.lane.refill.state = .none ∧ t.lane.refill.outcome = some { bank := b, reason := .shutdown })) ∧
    (∀ n : Nat, 2 < n →
      exec (.compressorReport .plant (some n)) s =
        .next (refusedAs (.compressorReport .plant (some n)) .plant (refuse .badValue) s))

/-- R22, R39, R149, R165, R180, R199: the six reads put their values into the slot and change nothing else; on the sales port, as any
request, they end stream mode first. The layouts, the codes and the order of the values are the model's (assumptions 3, 16, 29, 30, 31, 32
and 34); that a payload sent with a READ_SESSION on a dispenser port, which carries none, is not looked at is its reading (assumption 5). -/
def Obligations.ReadsReturnTheirValues : Prop :=
  ∀ (p : Port) (s : State), s.powered = true →
    let u := endStream p s
    (onPlantOrSales p = true →
      exec (.readBanks p) s = .next (answered p (ok (readBanksVals u)) u) ∧
      exec (.readAuth p (some none)) s = .next (answered p (ok (readAuthVals u)) u) ∧
      (∀ (n : Nat) (e : AuthEntry), findEntry s n = some e →
        exec (.readAuth p (some (some n))) s = .next (answered p (ok (authEntryVals e)) u)) ∧
      (∀ n : Nat, findEntry s n = none →
        exec (.readAuth p (some (some n))) s = .next (answered p (refuse .notFound) u)) ∧
      exec (.readLogStatus p) s = .next (answered p (ok (logStatusVals u)) u) ∧
      exec (.readFaults p) s = .next (answered p (ok (readFaultsVals u)) u) ∧
      (∀ (n : Nat) (d : Disp), Disp.ofNat? n = some d →
        exec (.readSession p (some n)) s = .next (answered p (ok (readSessionVals u d)) u)) ∧
      (∀ n : Nat, 3 < n → exec (.readSession p (some n)) s = .next (answered p (refuse .badValue) u))) ∧
    (∀ (d : Disp) (a : Option Nat),
      exec (.readSession (.disp d) a) s = .next (answered (.disp d) (ok (readSessionVals s d)) s)) ∧
    exec (.readStatus p) s = .next (answered p (ok (readStatusVals u)) u)

/-! ### Session Units -/

/-- R30: the seven checks of NOZZLE_ON, in their order, each with its refusal. -/
def Obligations.NozzleOnChecksInOrder : Prop :=
  ∀ (d : Disp) (a : NozzleOnArgs) (s : State), s.powered = true →
    let u := s.unit.get d
    let i := Instr.nozzleOn (.disp d) (some a)
    let no (st : Status) : Prop := exec i s = .next (refusedAs i (.disp d) (refuse st) s)
    let ready : Prop := s.fault.mode = .run ∧ s.fault.esdArmed = true ∧ s.inv.table.state = .valid ∧
      ∃ h, u.hoseClass = some h ∧ (s.profile h).valid = true
    let fits : Prop := ∃ h, u.hoseClass = some h ∧ 50 ≤ a.hosePressure ∧ a.hosePressure < nominalPressure h
    (u.sess.phase ≠ .idle ∨ u.nozzleOn = true → no .busy) ∧
    (u.sess.phase = .idle → u.nozzleOn = false →
      (¬ ready → no .notReady) ∧
      (ready → s.fault.locked.get d = true → no .locked) ∧
      (ready → s.fault.locked.get d = false →
        (u.held = true → no .held) ∧
        (u.held = false → pendingEntry s d = none → no .noAuth) ∧
        (u.held = false → pendingEntry s d ≠ none →
          (¬ fits → no .notAllowed) ∧ (fits → freeSlots s = 0 → no .logFull))))

/-- R31, R25, R57, R58, R76, R82 to R84, R98: what an accepted NOZZLE_ON leaves. The session is accepted (u) and admission is tried (w).
The class a try chooses for it is the first in the order A, B, C, N that is usable in the ambient band and whose claim, the estimate times
the load by 1000 rounded up, is at most the available cold; the estimate is the mass a COMM fill's tank lacks, or the preset or nominal
mass, and at most the budget. Then CAL_SWITCH is raised where the switch is asserted, and SENSOR_RANGE where a tank value of the new
vehicle record is out of range; the reply shows the state after that. If the head of the queue is not admitted, the session waits in
COLD_WAIT. If its queue was empty and it is admitted, it is in SWITCHING toward the best bank, in LANE_WAIT on the wait list where the
eligible banks are held, and ends with NO_BANK and without a record where no bank is eligible. The order of the two faults, and that tank
values without a vehicle record raise none, are the model's reading (assumptions 12 and 14). -/
def Obligations.NozzleOnStartsSession : Prop :=
  ∀ (d : Disp) (a : NozzleOnArgs) (e : AuthEntry) (s : State), s.powered = true →
    nozzleRefusal s d a.hosePressure = none → pendingEntry s d = some e →
      let u := acceptSession d e a s
      let w := tryAdmission u
      let vehicle : Bool := (vehicleOf s.port.clock a).isSome
      let kind : FillKind := if vehicle then .comm else .nonComm
      let x := if s.meter.calSwitch then raiseStation .calSwitch w else w
      let y := if vehicle && tankOut a.tankPressure a.tankTemperature then raiseDisp .sensorRange d x else x
      exec (.nozzleOn (.disp d) (some a)) s =
        .next (answered (.disp d)
          (ok [.byte (phaseCode (y.sess d).phase), .num e.number, .num e.budget, .byte (fillKindCode kind)]) y) ∧
      ((u.sess d).phase = .coldWait ∧ (u.sess d).waitTimer = some 120000 ∧
        (u.sess d).supervision = some (s.unit.get d).interval ∧ (u.sess d).authNumber = some e.number ∧
        (u.sess d).budget = e.budget ∧ (u.sess d).k = s.meter.factor.get d ∧ (u.sess d).metrology = s.meter.metrology ∧
        (u.sess d).pulses = 0 ∧ (u.sess d).mass = 0 ∧ (u.sess d).hosePressure = a.hosePressure ∧
        (u.sess d).fillKind = some kind ∧ (u.sess d).tankTimer = (if vehicle then some 5000 else none) ∧
        (u.sess d).startTime = s.port.clock ∧ (u.sess d).timeUnset = !s.port.clockSet ∧ (u.sess d).flowBegun = false ∧
        (u.unit.get d).nozzleOn = true ∧ u.cold.queue = s.cold.queue ++ [d] ∧ u.log.reserved = s.log.reserved + 1 ∧
        u.meter = { s.meter with unaccounted := s.meter.unaccounted.set d 0 } ∧
        (u.log.retained.slots.get d).map (·.authNumber) = some e.number ∧
        u.auth = { s.auth with
          entries := s.auth.entries.map fun x =>
            if x.number = e.number then { x with bound := true, timer := none } else x } ∧
        (∀ f, f ≠ d → u.unit.get f = s.unit.get f) ∧ u.inv = s.inv ∧ u.lane = s.lane ∧ u.fault = s.fault ∧ u.ramp = s.ramp) ∧
      (∀ h, (s.unit.get d).hoseClass = some h →
        let left := s.cold.reserve - ((Disp.all.filter fun f => f != d).map fun f => (s.sess f).claim).sum
        let claim (c : ColdClass) : Nat := (massEstimate u d * loadOf s.cold.config c + 999) / 1000
        let usable (c : ColdClass) : Prop := (s.profile h).cell (ambientBand s.inv.ambient) c ≠ 0 ∧ (c = .n → h = .h35)
        (∀ k, chooseClass u d = some k ↔
          usable k ∧ claim k ≤ left ∧ ∀ c, coldClassCode c < coldClassCode k → usable c → left < claim c) ∧
        (∀ (v : Vehicle) (full : Nat), vehicleOf s.port.clock a = some v → s.inv.table.state = .valid →
          (match h with
           | .h70 => s.inv.table.refH70
           | .h35 => s.inv.table.refH35) = some full →
          massEstimate u d =
            min (full * v.volume / 100 - densityAt s.inv.table v.pressure v.temperature * v.volume / 100) e.budget) ∧
        (vehicleOf s.port.clock a = none → authLawful s = true →
          massEstimate u d = min (e.preset.getD (s.profile h).nominalMass) e.budget)) ∧
      (admitHead u = none → w = u) ∧
      (∀ k : ColdClass, s.cold.queue = [] → chooseClass u d = some k →
        let q := enterWait d .laneWait 60000 (admitAs d k u)
        (w.sess d).classAtStart = some k ∧ (w.sess d).classNow = some k ∧
        (w.sess d).stamp = some (s.cold.lastStamp + 1) ∧ (w.sess d).band = some (ambientBand s.inv.ambient) ∧
        (w.unit.get d).permit = (s.unit.get d).permit ∧ w.cold.queue = [] ∧ w.cold.reserve = s.cold.reserve ∧
        w.meter = u.meter ∧ w.fault = s.fault ∧
        (∀ b, bestBank q d = some b →
          (w.sess d).phase = .switching ∧ (w.sess d).currentBank = some b ∧ (w.sess d).waitTimer = none ∧
          (w.sess d).claim = (massEstimate u d * loadOf s.cold.config k + 999) / 1000 ∧
          (w.sess d).bankUse =
            [{ bank := b, massAtGrant := 0, drawn := 0, inventoryAtGrant := (s.bank b).inventory }] ∧
          (w.unit.get d).switchTimer = some s.lane.settings.switchTime ∧ (w.bank b).holder = some (.disp d) ∧
          w.auth = u.auth ∧ w.log.reserved = s.log.reserved + 1) ∧
        (bestBank q d = none → anyEligible q d = true →
          (w.sess d).phase = .laneWait ∧ (w.sess d).waitTimer = some 60000 ∧ (w.sess d).currentBank = none ∧
          (w.sess d).claim = (massEstimate u d * loadOf s.cold.config k + 999) / 1000 ∧ w.inv = s.inv ∧
          w.lane = { s.lane with
            waitList := s.lane.waitList ++
              [{ disp := d, joined := s.port.clock, yieldTimer := some (s.lane.settings.yieldTime * 1000), due := false, waited := 0 }] } ∧
          w.auth = u.auth ∧ w.log.reserved = s.log.reserved + 1) ∧
        (bestBank q d = none → anyEligible q d = false →
          (w.sess d).phase = .idle ∧ (w.sess d).reason = some .noBank ∧ (w.sess d).endTime = some s.port.clock ∧
          (w.sess d).claim = 0 ∧ (w.sess d).waitTimer = none ∧ (w.sess d).supervision = none ∧ w.inv = s.inv ∧
          w.log.reserved = s.log.reserved ∧ w.log.retained.slots.get d = none ∧
          (w.port.dispEvents.get d).sessionEnded = true ∧
          (authLawful s = true →
            (e.revokeOnClose = false →
              { e with timer := some (e.expiry * 1000) } ∈ w.auth.entries ∧ (w.port.dispEvents.get d).authReady = true) ∧
            (e.revokeOnClose = true → ∀ x ∈ w.auth.entries, x.number ≠ e.number))))

/-- R33 to R36, R25, R62: REPORT. In IDLE it changes nothing; with one tank value alone it is refused. Otherwise its values are stored,
whatever the checks that follow do; one SENSOR_RANGE is raised where a value it delivers is out of range, and above NOTE locks the
dispenser and ends a session before CLOSING with FAULT_STOP; and the reply carries the state after the hand-offs, the ceiling (0 outside
SWITCHING, FLOWING and BANK_WAIT), the mass, the display amount and the state of charge of a COMM fill. A report in FLOWING that no check
of R64 to R69, R89 and R101 meets, of a NON_COMM fill without tank data or of a COMM fill below its target, leaves the session FLOWING
with no strike and a new ceiling, and touches nothing outside its Session Unit. The checks that a report meets are in ReportChecksAct.
Tank values that no vehicle record keeps are ignored, which is the model's reading (assumption 14), as are the form of the reply
(assumption 3), the fault after the values (assumption 12) and the reply of an ended session (assumption 19); that it keeps FAULT_STOP at
SHUTDOWN severity is its choice (assumption 25). -/
def Obligations.ReportStoresValues : Prop :=
  ∀ (d : Disp) (a : ReportArgs) (s : State), s.powered = true →
    let i := Instr.report (.disp d) (some a)
    let r := s.sess d
    (a.tankPressure.isSome ≠ a.tankTemperature.isSome → exec i s = .next (refusedAs i (.disp d) (refuse .badValue) s)) ∧
    (a.tankPressure.isSome = a.tankTemperature.isSome →
      (r.phase = .idle → exec i s = .next (answered (.disp d) (ok reportIdleVals) s)) ∧
      (r.phase ≠ .idle →
        ∃ t, exec i s = .next t ∧
          (t.sess d).hosePressure = min a.hosePressure 9000 ∧
          (t.sess d).hoseTemperature = some (max (-500) (min a.hoseTemperature 1000)) ∧
          (t.sess d).trace =
            appendSample r.trace
              { clock := r.rampClock, pressure := min a.hosePressure 9000,
                temperature := max (-500) (min a.hoseTemperature 1000) } ∧
          (t.sess d).vehicle = r.vehicle.map (vehicleAfter s.port.clock a) ∧ (t.sess d).pulses = r.pulses ∧
          (t.sess d).mass = r.mass ∧ t.meter.factor = s.meter.factor ∧ t.log.array = s.log.array ∧
          (let q := t.sess d
           let ceiling : Nat := if q.phase = .switching ∨ q.phase = .flowing ∨ q.phase = .bankWait then q.lastCeiling else 0
           let amount : Nat := match t.auth.entries.find? (fun e => e.disp == d && e.bound) with
             | some e => min ((q.mass * e.price + 500) / 1000) e.limit
             | none => 0
           let soc : Option Nat :=
             match q.fillKind, q.vehicle, q.hoseClass.bind fun h => match h with
               | .h70 => t.inv.table.refH70
               | .h35 => t.inv.table.refH35 with
             | some .comm, some v, some full =>
               if t.inv.table.state = .valid then
                 some (min (densityAt t.inv.table v.pressure v.temperature * 1000 / full) 1500)
               else none
             | _, _, _ => none
           t.port.slots.get (.disp d) =
             ok ([.byte (phaseCode q.phase), .present true, .num ceiling, .num q.mass, .present true, .num amount] ++
               match soc with
               | some n => [.present true, .num n]
               | none => [.present false])) ∧
          (let out : Bool :=
             decide (9000 < a.hosePressure) || decide (a.hoseTemperature < -500) || decide (1000 < a.hoseTemperature) ||
             (r.vehicle.isSome && ((a.tankPressure.any fun x => decide (9000 < x)) ||
               (a.tankTemperature.any fun x => decide (x < -500) || decide (1000 < x))))
           let sev := s.fault.severity.sensorRange
           let what (c : Option Context) := c.map fun x => (x.kind, x.site, x.severity, x.phase, x.hosePressure)
           let raised := some (FaultKind.sensorRange, Site.disp d, sev, some r.phase, some (min a.hosePressure 9000))
           (∀ (n : Nat) (x : Counter), s.fault.counters[n]? = some x → x.sel = some .sensorRange →
             t.fault.counters[n]? = some (if out then { x with value := min (x.value + 1) 65535 } else x)) ∧
           (out = true →
             t.port.plantEvents.faultRecorded = true ∧
             (sev = .note → s.fault.firstNote = none → what t.fault.firstNote = raised) ∧
             (sev ≠ .note → s.fault.firstSevere = none → what t.fault.firstSevere = raised) ∧
             (sev = .note → s.fault.firstNote ≠ none → t.fault.nextNote.sensorRange = true) ∧
             (sev ≠ .note → s.fault.firstSevere ≠ none → t.fault.nextSevere.sensorRange = true) ∧
             (sev ≠ .note →
               t.fault.locked.get d = true ∧
               (r.phase.active = true → (t.sess d).phase.active = false ∧ (t.sess d).reason = some .faultStop) ∧
               (r.phase.active = false → sessionsLawful s = true →
                 (t.sess d).phase = r.phase ∧ (t.sess d).reason = r.reason)))) ∧
          (r.phase = .flowing → a.hosePressure ≤ 9000 → -500 ≤ a.hoseTemperature → a.hoseTemperature ≤ 1000 →
            r.checkActive = false →
            ∀ (h : HoseClass) (b : Bank), r.hoseClass = some h → r.currentBank = some b →
              a.hosePressure ≤ hoseLimit h → a.hosePressure ≤ r.lastCeiling →
              (a.tankPressure = none ∧ r.fillKind = some .nonComm ∧ a.hosePressure < (s.profile h).target (r.band.getD 0)) ∨
              (r.fillKind = some .comm ∧ tankOut a.tankPressure a.tankTemperature = false ∧
                (∀ x, a.tankTemperature = some x → x < 850) ∧ (a.tankPressure = none → r.tankLapsed = false) ∧
                (∀ soc, stateOfCharge (s.modSess d fun r => { r with vehicle := r.vehicle.map (vehicleAfter s.port.clock a) }) d =
                  some soc → soc < (s.profile h).targetSoc)) →
              pressureTarget r.rampBaseline r.aprr r.rampClock ≤ a.hosePressure + (s.profile h).dpLow →
              a.hosePressure + s.lane.settings.dpSwitch ≤ (s.bank b).pressure →
              (s.lane.waitList.any fun w => w.disp == d) = false →
                let ceiling := min (r.rampBaseline + r.aprr * r.rampClock / 600 + (s.profile h).dpUp) (hoseLimit h)
                (t.sess d).phase = .flowing ∧ (t.sess d).strikes = 0 ∧ (t.sess d).lastCeiling = ceiling ∧
                (t.sess d).lagStart = none ∧ (t.sess d).fillKind = r.fillKind ∧
                (t.sess d).tankTimer = (if r.fillKind = some .comm ∧ a.tankPressure.isSome = true then some 5000 else r.tankTimer) ∧
                (t.sess d).supervision = r.supervision.map (fun _ => (s.unit.get d).interval) ∧
                (∀ f, f ≠ d → t.unit.get f = s.unit.get f) ∧ t.inv = s.inv ∧ t.cold = s.cold ∧ t.lane = s.lane ∧
                t.meter = s.meter ∧ t.auth = s.auth ∧ t.log = s.log ∧ t.fault = s.fault)))

/-- R64 to R69, R89, R101, R102: the checks of a REPORT whose values are in range. Above the hose limit PRESSURE_LIMIT is raised, in
every state but IDLE. In FLOWING: above the ceiling the first strike is counted and the second raises RAMP_OVER; a hot tank ends the
session; a COMM fill without tank data after the lapse falls back to NON_COMM; the end test of its kind ends it; otherwise there is a new
ceiling, the lag is followed, and a bank too close to the hose pressure is released and the next one asked for. The delivery check runs
the exceedance timer. At SHUTDOWN severity a session keeps PRESSURE_LIMIT or RAMP_OVER because the model makes the site's action before
the entry into SHUTDOWN, which R50 and R64 leave open (assumption 25). -/
def Obligations.ReportChecksAct : Prop :=
  ∀ (d : Disp) (a : ReportArgs) (h : HoseClass) (s : State), s.powered = true → sessionsLawful s = true →
    a.tankPressure.isSome = a.tankTemperature.isSome → tankOut a.tankPressure a.tankTemperature = false →
    a.hosePressure ≤ 9000 → -500 ≤ a.hoseTemperature → a.hoseTemperature ≤ 1000 → (s.sess d).phase ≠ .idle →
    (s.sess d).hoseClass = some h →
      let r := s.sess d
      let p := a.hosePressure
      let stored := s.modSess d fun r => { r with hosePressure := p, vehicle := r.vehicle.map (vehicleAfter s.port.clock a) }
      let ends (t : State) (reason : Reason) : Prop := (t.sess d).phase.active = false ∧ (t.sess d).reason = some reason
      let faulted (t : State) : Prop := t.fault.locked.get d = true ∧ t.port.plantEvents.faultRecorded = true
      let hot : Prop := r.vehicle.isSome = true ∧ ∃ y, a.tankTemperature = some y ∧ 850 ≤ y
      let falls : Prop := r.fillKind = some .comm ∧ r.tankLapsed = true ∧ a.tankPressure = none
      let comm : Prop := r.fillKind = some .comm ∧ ¬ falls
      let full : Prop :=
        (comm ∧ ∃ soc, stateOfCharge stored d = some soc ∧ (s.profile h).targetSoc ≤ soc) ∨
        (¬ comm ∧ (s.profile h).target (r.band.getD 0) ≤ p)
      let lag : Prop := p + (s.profile h).dpLow < pressureTarget r.rampBaseline r.aprr r.rampClock
      ∃ t, exec (.report (.disp d) (some a)) s = .next t ∧
        (hoseLimit h < p → s.fault.severity.pressureLimit ≠ .note →
          faulted t ∧ (r.phase.active = true → ends t .pressureLimit) ∧
          (r.phase.active = false → (t.sess d).phase = r.phase ∧ (t.sess d).reason = r.reason)) ∧
        (r.phase = .flowing → p ≤ hoseLimit h →
          (p ≤ r.lastCeiling → (t.sess d).strikes = 0) ∧
          (r.lastCeiling < p → r.strikes = 0 → (t.sess d).strikes = 1) ∧
          (r.lastCeiling < p → r.strikes ≠ 0 → s.fault.severity.rampOver ≠ .note → faulted t ∧ ends t .rampOver) ∧
          (p ≤ r.lastCeiling ∨ r.strikes = 0 →
            (hot → ends t .tankHot ∧ t.fault.locked = s.fault.locked) ∧
            (¬ hot →
              (falls → (t.sess d).fillKind = some .nonComm ∧ (t.sess d).tankTimer = none) ∧
              (¬ falls → (t.sess d).fillKind = r.fillKind) ∧
              (full → comm → ends t .targetSoc) ∧ (full → ¬ comm → ends t .targetPressure) ∧
              (¬ full →
                (t.sess d).lastCeiling = min (r.rampBaseline + r.aprr * r.rampClock / 600 + (s.profile h).dpUp) (hoseLimit h) ∧
                (¬ lag → (t.sess d).lagStart = none) ∧
                (lag → r.lagStart = none → (t.sess d).lagStart = some r.rampClock) ∧
                (∀ c, r.lagStart = some c →
                  (lag → c + 100 ≤ r.rampClock →
                    (t.sess d).lagStart = some r.rampClock ∧ (t.port.dispEvents.get d).rampLag = true) ∧
                  (lag → r.rampClock < c + 100 →
                    (t.sess d).lagStart = some c ∧ (t.port.dispEvents.get d).rampLag = (s.port.dispEvents.get d).rampLag)) ∧
                (∀ b, r.currentBank = some b →
                  (p + s.lane.settings.dpSwitch ≤ (s.bank b).pressure →
                    (t.sess d).phase = .flowing ∧ (t.sess d).currentBank = some b) ∧
                  ((s.bank b).pressure < p + s.lane.settings.dpSwitch → s.fault.severity.balanceMismatch = .note →
                    (r.bankUse.any fun x => x.bank == b) = true →
                      (t.lane.valves.get b).get (.disp d) = false ∧ (t.bank b).holder ≠ some (.disp d) ∧
                      (∀ c, bestBank stored d = some c →
                        (t.sess d).phase = .switching ∧ (t.sess d).currentBank = some c ∧ (t.bank c).holder = some (.disp d) ∧
                        (t.unit.get d).switchTimer = some s.lane.settings.switchTime) ∧
                      (bestBank stored d = none → anyEligible stored d = true →
                        (t.sess d).phase = .bankWait ∧ (t.sess d).waitTimer = some 30000 ∧ (t.sess d).currentBank = none ∧
                        d ∈ t.lane.waitList.map (·.disp)) ∧
                      (bestBank stored d = none → anyEligible stored d = false → ends t .banksExhausted))))))) ∧
        (∀ k, r.classNow = some k → r.checkActive = true → (t.sess d).phase.active = true →
          ∀ l, limitOf s.cold.config k = some l →
            (l < a.hoseTemperature → (t.sess d).exceedTimer = some (r.exceedTimer.getD 30000)) ∧
            (a.hoseTemperature ≤ l → (t.sess d).exceedTimer = none))

/-- R37, R38, R43 to R45: STOP_FILL and NOZZLE_OFF. A session before CLOSING ends with the reason and the clock as its end time, its
timers stopped, its claim and its lane released, out of every list. If flow had not begun and no pulse had counted it becomes IDLE: its
slot is cleared, its reservation released, and its entry returned to PENDING with a full timer and AUTH_READY, or freed if it is marked
(R141). Otherwise it becomes CLOSING, or COMMIT_WAIT where the settle time is 0 (R47), with its entry and reservation kept. An ended
session keeps its course. The counts are stated where no session behind it can be admitted and end in the same event (alone). That a
settle time of 0 ends the settle window within the end is the model's reading (assumption 9). -/
def Obligations.StopAndNozzleOffEndSession : Prop :=
  ∀ (d : Disp) (s : State), s.powered = true →
    let r := s.sess d
    let alone : Prop := (∀ f ∈ s.cold.queue, f = d) ∧ s.fault.severity.balanceMismatch ≠ .shutdown
    let ended (t : State) (reason : Reason) : Prop :=
      (t.sess d).reason = some reason ∧ (t.sess d).endTime = some s.port.clock ∧
      (t.sess d).timeUnset = (r.timeUnset || !s.port.clockSet) ∧ (t.sess d).claim = 0 ∧ (t.sess d).currentBank = none ∧
      (t.sess d).supervision = none ∧ (t.sess d).waitTimer = none ∧ (t.sess d).graceTimer = none ∧
      (t.sess d).exceedTimer = none ∧ (t.sess d).tankTimer = none ∧ (t.sess d).mass = r.mass ∧
      (t.sess d).pulses = r.pulses ∧ d ∉ t.cold.queue ∧ d ∉ t.lane.waitList.map (·.disp) ∧
      t.port.dispEvents.get d =
        { (t.port.dispEvents.get d) with sessionEnded := true, stateChanged := true } ∧
      (∀ b, r.currentBank = some b →
        (t.lane.valves.get b).get (.disp d) = false ∧ (t.bank b).holder ≠ some (.disp d) ∧ (t.unit.get d).switchTimer = none) ∧
      (r.flowBegun = false → r.pulses = 0 →
        (t.sess d).phase = .idle ∧ t.log.retained.slots.get d = none ∧ (alone → t.log.reserved = s.log.reserved - 1) ∧
        (authLawful s = true → ∀ e, boundEntry s d = some e →
          (e.revokeOnClose = true → ∀ x ∈ t.auth.entries, x.number ≠ e.number) ∧
          (e.revokeOnClose = false →
            { e with bound := false, timer := some (e.expiry * 1000) } ∈ t.auth.entries ∧
            (t.port.dispEvents.get d).authReady = true))) ∧
      (r.flowBegun = true ∨ r.pulses ≠ 0 →
        (t.unit.get d).permit = false ∧
        (alone → t.auth = s.auth ∧ (s.settleTime ≠ 0 → t.log.reserved = s.log.reserved ∧
          t.log.retained.slots.get d = s.log.retained.slots.get d)) ∧
        (s.settleTime ≠ 0 → (t.sess d).phase = .closing ∧ (t.sess d).settleTimer = some s.settleTime) ∧
        (s.settleTime = 0 → (t.sess d).phase = .commitWait))
    (r.phase.active = true →
      (∃ t, exec (.stopFill (.disp d)) s = .next t ∧ ended t .stopRequest ∧
        (t.unit.get d).nozzleOn = (s.unit.get d).nozzleOn ∧
        t.port.slots.disp.get d = ok [.byte (phaseCode (t.sess d).phase)]) ∧
      (∃ t, exec (.nozzleOff (.disp d)) s = .next t ∧ ended t .nozzleOff ∧ (t.unit.get d).nozzleOn = false ∧
        t.port.slots.disp.get d = ok [.byte (phaseCode (t.sess d).phase)])) ∧
    (r.phase.active = false →
      (r.phase = .idle → exec (.stopFill (.disp d)) s = .next (refusedAs (.stopFill (.disp d)) (.disp d) (refuse .notAllowed) s)) ∧
      (r.phase ≠ .idle →
        exec (.stopFill (.disp d)) s = .next (answered (.disp d) (ok [.byte (phaseCode r.phase)]) s)) ∧
      exec (.nozzleOff (.disp d)) s =
        .next (answered (.disp d) (ok [.byte (phaseCode r.phase)]) (s.modUnit d fun u => { u with nozzleOn := false })))

/-- R41, R47, R51, R52: the settings of the Session Units. -/
def Obligations.DispenserSettings : Prop :=
  ∀ (s : State), s.powered = true →
    (∀ (a : SetDispenserArgs),
      let i := Instr.setDispenser .plant (some a)
      (3 < a.disp ∨ 1 < a.hoseClass ∨ a.interval < 200 ∨ 5000 < a.interval →
        exec i s = .next (refusedAs i .plant (refuse .badValue) s)) ∧
      (∀ (d : Disp) (h : HoseClass), Disp.ofNat? a.disp = some d → hoseClassOf a.hoseClass = some h → 200 ≤ a.interval →
        a.interval ≤ 5000 →
          ((s.sess d).phase ≠ .idle → exec i s = .next (refusedAs i .plant (refuse .busy) s)) ∧
          ((s.sess d).phase = .idle →
            exec i s = .next (answered .plant (ok [.byte a.hoseClass, .num a.interval])
              (s.modUnit d fun u => { u with hoseClass := some h, interval := a.interval }))))) ∧
    (∀ n : Nat,
      (5000 < n → exec (.setSettle .plant (some n)) s = .next (refusedAs (.setSettle .plant (some n)) .plant (refuse .badValue) s)) ∧
      (n ≤ 5000 → exec (.setSettle .plant (some n)) s = .next (answered .plant (ok [.num n]) { s with settleTime := n }))) ∧
    (∀ (p : Port) (m : Byte), p = .plant ∨ p = .sales →
      (15 < m.toNat →
        exec (.holdSet p (some m)) s = .next (refusedAs (.holdSet p (some m)) p (refuse .badValue) s) ∧
        exec (.holdClear p (some m)) s = .next (refusedAs (.holdClear p (some m)) p (refuse .badValue) s)) ∧
      (m.toNat ≤ 15 →
        let held (f : Bool → Bool → Bool) : State :=
          { endStream p s with
            unit :=
              { d0 := { s.unit.d0 with held := f s.unit.d0.held (m.getLsbD 0) },
                d1 := { s.unit.d1 with held := f s.unit.d1.held (m.getLsbD 1) },
                d2 := { s.unit.d2 with held := f s.unit.d2.held (m.getLsbD 2) },
                d3 := { s.unit.d3 with held := f s.unit.d3.held (m.getLsbD 3) } } }
        exec (.holdSet p (some m)) s =
          .next (answered p (ok [.byte (dispSetCode ((held or).unit.map (·.held)))]) (held or)) ∧
        exec (.holdClear p (some m)) s =
          .next (answered p (ok [.byte (dispSetCode ((held fun x y => x && !y).unit.map (·.held)))])
            (held fun x y => x && !y))))

/-- The expiries and completions that come with time. R6, R20, R80: a bank turns STALE, with BANK_STALE if it is IN_SERVICE, here at NOTE,
and the pass runs; the ambient record turns STALE with AMBIENT_STALE; the chiller record without a fault. R40, R29, R88, R89, R67, R60:
supervision raises LINK_LOST; a wait timer ends the session with the reason of its state; the grace timer activates the delivery check;
the exceedance timer asks for a downgrade; the tank-data timer sets the lapsed mark; the ramp clock counts in FLOWING alone and stops at
65535. R94, R42, R61: the completion of a route switch opens the valve and the session is FLOWING; at the first one the permit is
asserted, the grace timer starts and the ramp starts from the last hose pressure; toward the compressor the run is RUNNING and
REFILL_GRANT is added. A stopped timer does not expire, and no switch completes without one in flight; that a running one expires whatever
it shows as left is the model's choice (assumption 8). -/
def Obligations.TimersAndSwitchesComplete : Prop :=
  ∀ (s : State), s.powered = true →
    (∀ b : Bank,
      let u := s.modBank b fun e => { e with fresh := false, staleTimer := none }
      ((s.bank b).staleTimer = none → exec (.bankStalenessExpiry b) s = .next s) ∧
      (lanesLawful s = true → (s.bank b).staleTimer ≠ none →
        ((s.bank b).service ≠ .inService → exec (.bankStalenessExpiry b) s = .next (arbiterPass u)) ∧
        ((s.bank b).service = .inService → s.fault.severity.bankStale = .note →
          exec (.bankStalenessExpiry b) s = .next (arbiterPass (recordFault .bankStale (.bank b) none u))))) ∧
    (s.inv.ambient.staleTimer = none → exec .ambientStalenessExpiry s = .next s) ∧
    (s.inv.ambient.staleTimer ≠ none →
      exec .ambientStalenessExpiry s =
        .next (raiseStation .ambientStale
          (s.modInv fun i => { i with ambient := { i.ambient with fresh := false, staleTimer := none } }))) ∧
    (s.cold.chiller.staleTimer = none → exec .chillerStalenessExpiry s = .next s) ∧
    (s.cold.chiller.staleTimer ≠ none →
      exec .chillerStalenessExpiry s =
        .next (s.modCold fun c => { c with chiller := { c.chiller with fresh := false, staleTimer := none } })) ∧
    (∀ d : Disp,
      let r := s.sess d
      (r.supervision = none → exec (.supervisionExpiry d) s = .next s) ∧
      (r.supervision ≠ none →
        exec (.supervisionExpiry d) s = .next (raiseDisp .linkLost d (s.modSess d fun r => { r with supervision := none }))) ∧
      (r.waitTimer = none → exec (.waitTimerExpiry d) s = .next s) ∧
      (r.waitTimer ≠ none →
        (r.phase = .coldWait → exec (.waitTimerExpiry d) s = .next (terminate d .noCold s)) ∧
        (r.phase = .laneWait → exec (.waitTimerExpiry d) s = .next (terminate d .noBank s)) ∧
        (r.phase = .bankWait → exec (.waitTimerExpiry d) s = .next (terminate d .bankTimeout s))) ∧
      (r.graceTimer = none → exec (.precoolGraceExpiry d) s = .next s) ∧
      (r.graceTimer ≠ none →
        exec (.precoolGraceExpiry d) s = .next (s.modSess d fun r => { r with graceTimer := none, checkActive := true })) ∧
      (r.exceedTimer = none → exec (.exceedanceExpiry d) s = .next s) ∧
      (r.exceedTimer ≠ none → r.phase.active = true →
        let u := s.modSess d fun r => { r with exceedTimer := none }
        (∀ x, downgradeClass s d = some x → exec (.exceedanceExpiry d) s = .next (moveToClass d x u)) ∧
        (downgradeClass s d = none → exec (.exceedanceExpiry d) s = .next (terminate d .precoolLost u))) ∧
      (r.tankTimer = none → exec (.tankDataExpiry d) s = .next s) ∧
      (r.tankTimer ≠ none →
        exec (.tankDataExpiry d) s = .next (s.modSess d fun r => { r with tankTimer := none, tankLapsed := true })) ∧
      (r.phase = .flowing →
        exec (.rampClockTick d) s =
          .next (s.modSess d fun r => { r with rampClock := min (r.rampClock + 1) 65535, rampPart := 0 })) ∧
      (r.phase ≠ .flowing → exec (.rampClockTick d) s = .next s)) ∧
    (∀ d : Disp, (s.unit.get d).switchTimer = none → exec (.switchCompletion (.disp d)) s = .next s) ∧
    (∀ (d : Disp) (b : Bank) (h : HoseClass), (s.unit.get d).switchTimer ≠ none → (s.sess d).currentBank = some b →
      (s.sess d).hoseClass = some h → (s.sess d).phase = .switching →
        let r := s.sess d
        ((s.sess d).flowBegun = false →
          exec (.switchCompletion (.disp d)) s =
            .next (addDispEvent d .stateChanged ((setValve b (.disp d) true s).modUnit d fun u =>
              { u with
                switchTimer := none, permit := s.fault.mode != .shutdown,
                sess := { r with
                  phase := .flowing, flowBegun := true, graceTimer := some 30000, rampBaseline := r.hosePressure,
                  rampClock := 0, rampPart := 0, strikes := 0, lagStart := none,
                  lastCeiling := min (r.hosePressure + (s.profile h).dpUp) (hoseLimit h) } }))) ∧
        ((s.sess d).flowBegun = true →
          exec (.switchCompletion (.disp d)) s =
            .next (addDispEvent d .stateChanged ((setValve b (.disp d) true s).modUnit d fun u =>
              { u with switchTimer := none, sess := { r with phase := .flowing } })))) ∧
    (s.lane.refill.switchTimer = none → exec (.switchCompletion .compressor) s = .next s) ∧
    (∀ b, s.lane.refill.switchTimer ≠ none → s.lane.refill.bank = some b →
      exec (.switchCompletion .compressor) s =
        .next (addPlantEvent .refillGrant ((setValve b .compressor true s).modLane fun l =>
          { l with refill := { l.refill with state := .running, switchTimer := none } })))

/-- R47, R48: at the expiry of the settle timer the session waits in COMMIT_WAIT and its sale record is offered to the commit queue, with
the final mass, billed half up at the entry's price and capped at its limit (R140). A commit that starts at once leaves the free count
unchanged (R155). The free count during a commit is the model's reading (assumption 23), and that a running timer expires whatever it
shows as left its choice (assumption 8). -/
def Obligations.SettleExpiryOffersSale : Prop :=
  ∀ (d : Disp) (e : AuthEntry) (s : State), s.powered = true →
    ((s.sess d).phase ≠ .closing ∨ (s.sess d).settleTimer = none → exec (.settleTimerExpiry d) s = .next s) ∧
    ((s.sess d).phase = .closing → (s.sess d).settleTimer ≠ none → boundEntry s d = some e →
      let r := s.sess d
      let sale : SaleRecord :=
        { disp := d, station := 0, seq := 0, startTime := r.startTime, endTime := r.endTime.getD 0,
          authNumber := r.authNumber.getD 0, group := e.group, line := e.line, account := e.account, price := e.price,
          limit := e.limit, mass := r.mass, amount := min ((r.mass * e.price + 500) / 1000) e.limit, k := r.k,
          metrology := r.metrology, soc := if r.fillKind = some .comm then stateOfCharge s d else none,
          hoseClass := r.hoseClass, fillKind := r.fillKind, classAtStart := r.classAtStart, classAtEnd := r.classNow,
          reason := r.reason, timeUnset := r.timeUnset, capped := decide (e.limit < (r.mass * e.price + 500) / 1000),
          coldShortfall := r.coldShortfall, bankUse := r.bankUse.map fun x => (x.bank, x.drawn) }
      ∃ t, exec (.settleTimerExpiry d) s = .next t ∧ (t.sess d).phase = .commitWait ∧ (t.sess d).settleTimer = none ∧
        (t.sess d).mass = r.mass ∧ (∀ f, f ≠ d → t.unit.get f = s.unit.get f) ∧ t.auth = s.auth ∧ t.lane = s.lane ∧
        t.inv = s.inv ∧ t.cold = s.cold ∧ t.log.array = s.log.array ∧
        (s.log.op ≠ .idle → s.log.queue.length < 8 →
          t.log.queue = s.log.queue ++ [{ source := .session d, record := .sale sale }]) ∧
        (8 ≤ s.log.queue.length → t.log.offers = s.log.offers ++ [{ source := .session d, record := .sale sale }]) ∧
        (∀ v, s.log.op = .idle → s.log.queue = [] → s.log.offers = [] → s.log.view = some v →
          t.log.op =
            .committing
              { source := .session d,
                record := .sale { sale with station := s.port.stationId, seq := v.newest.getD 0 + 1 } }
              v.writePos (v.newest.getD 0 + 1) ∧
          (1 ≤ v.erased → v.newest.getD 0 < 4294967295 → 1 ≤ s.log.reserved → freeSlots t = freeSlots s)))

/-! ### Ramp Engine and Cold Reserve Unit -/

/-- R56: PROFILE_LOAD. A payload out of form is refused with FORM, a class with a session that is not IDLE with BUSY, a value out of
its range with RANGE and an N cell in an H70 profile with N_CELL and its first band; an accepted one makes the class's profile VALID
with the values carried. The layout of the profile in the reply, and the band of N_CELL as a number of 4 bytes, are the model's
reading (assumptions 16 and 33). -/
def Obligations.ProfileLoadReplacesProfile : Prop :=
  ∀ (a : ProfileArgs) (h : HoseClass) (s : State), s.powered = true →
    let i := Instr.profileLoad .plant (some a)
    (1 < a.hoseClass ∨ a.cells.length ≠ 24 ∨ a.targets.length ≠ 6 →
      exec i s = .next (answered .plant (refuseWith .badValue [.byte 0]) s)) ∧
    (hoseClassOf a.hoseClass = some h → a.cells.length = 24 → a.targets.length = 6 →
      let fits : Prop := 100 ≤ a.dpUp ∧ a.dpUp ≤ 1500 ∧ 100 ≤ a.dpLow ∧ a.dpLow ≤ 1500 ∧ 900 ≤ a.targetSoc ∧
        a.targetSoc ≤ 1000 ∧ 1000 ≤ a.nominalMass ∧ a.nominalMass ≤ 100000 ∧ (∀ x ∈ a.cells, x ≤ 6000) ∧
        (∀ x ∈ a.targets, 1000 ≤ x ∧ x ≤ hoseLimit h)
      ((∃ d, (s.sess d).hoseClass = some h ∧ (s.sess d).phase ≠ .idle) →
        exec i s = .next (refusedAs i .plant (refuse .busy) s)) ∧
      ((∀ d, (s.sess d).hoseClass = some h → (s.sess d).phase = .idle) →
        (¬ fits → ∃ place, exec i s = .next (answered .plant (refuseWith .badValue (.byte 1 :: place)) s)) ∧
        (fits → h = .h35 ∨ (∀ j < 6, a.cells.getD (4 * j + 3) 0 = 0) →
          ∃ t, exec i s = .next (answered .plant (ok (.byte a.hoseClass :: profileVals (t.profile h))) t) ∧
            (∀ g, g ≠ h → t.profile g = s.profile g) ∧ t = { s with ramp := t.ramp } ∧
            (t.profile h).valid = true ∧ (t.profile h).dpUp = a.dpUp ∧ (t.profile h).dpLow = a.dpLow ∧
            (t.profile h).targetSoc = a.targetSoc ∧ (t.profile h).nominalMass = a.nominalMass ∧
            ∀ j < 6,
              (t.profile h).cell j .a = a.cells.getD (4 * j) 0 ∧ (t.profile h).cell j .b = a.cells.getD (4 * j + 1) 0 ∧
              (t.profile h).cell j .c = a.cells.getD (4 * j + 2) 0 ∧ (t.profile h).cell j .n = a.cells.getD (4 * j + 3) 0 ∧
              (t.profile h).target j = a.targets.getD j 0) ∧
        (fits → h = .h70 → ∀ j < 6, a.cells.getD (4 * j + 3) 0 ≠ 0 → (∀ k < j, a.cells.getD (4 * k + 3) 0 = 0) →
          exec i s = .next (answered .plant (refuseWith .badValue [.byte 2, .num j]) s))))

/-- R77, R78, R80, R81: the cold reserve's commands and its recharge. COLD_CONFIG and COLD_SET bring the reserve within the capacity,
trim the claims and try admission; CHILLER_REPORT records the chiller; each second a FRESH running chiller adds its rate up to the
capacity, and admission is tried. The layout of the configuration in the reply, the codes of the chiller's states and the one byte of
a field out of range are the model's reading (assumptions 3, 16 and 33). -/
def Obligations.ColdReserveCommands : Prop :=
  ∀ (s : State), s.powered = true →
    (∀ a : ColdConfigArgs,
      let i := Instr.coldConfig .plant (some a)
      let fits : Prop := a.capacity ≤ 4000000 ∧ a.loadA ≤ 3000 ∧ a.loadB ≤ 3000 ∧ a.loadC ≤ 3000 ∧ -500 ≤ a.limitA ∧
        a.limitA ≤ 0 ∧ -500 ≤ a.limitB ∧ a.limitB ≤ 0 ∧ -500 ≤ a.limitC ∧ a.limitC ≤ 0
      (fits → a.loadA < a.loadB ∨ a.loadB < a.loadC →
        exec i s = .next (answered .plant (refuseWith .badValue [.byte 1]) s)) ∧
      (fits → a.loadC ≤ a.loadB → a.loadB ≤ a.loadA → a.limitB ≤ a.limitA ∨ a.limitC ≤ a.limitB →
        exec i s = .next (answered .plant (refuseWith .badValue [.byte 2]) s)) ∧
      (¬ fits → ∃ f, exec i s = .next (answered .plant (refuseWith .badValue [.byte 0, .byte f]) s)) ∧
      (fits → a.loadC ≤ a.loadB → a.loadB ≤ a.loadA → a.limitA < a.limitB → a.limitB < a.limitC →
        let c : ColdConfig := { capacity := a.capacity, loadA := a.loadA, loadB := a.loadB, loadC := a.loadC, limitA := a.limitA,
                                limitB := a.limitB, limitC := a.limitC }
        exec i s = .next (answered .plant (ok (coldConfigVals c ++ [.num (min s.cold.reserve a.capacity)]))
          (tryAdmission (trimClaims (s.modCold fun x => { x with config := c, reserve := min x.reserve a.capacity })))))) ∧
    (∀ n : Nat,
      (4000000 < n → exec (.coldSet .plant (some n)) s = .next (refusedAs (.coldSet .plant (some n)) .plant (refuse .badValue) s)) ∧
      (n ≤ 4000000 →
        let taken := min n s.cold.config.capacity
        exec (.coldSet .plant (some n)) s =
          .next (answered .plant (ok [.num taken])
            (tryAdmission (trimClaims (s.modCold fun x => { x with reserve := taken })))))) ∧
    (∀ rate : Nat, rate ≤ 5000 →
      exec (.chillerReport .plant (some { state := 0, rate := some rate })) s =
        .next (answered .plant (ok []) (s.modCold fun x =>
          { x with chiller := { running := true, rate := rate, time := s.port.clock, fresh := true, staleTimer := some 10000 } }))) ∧
    (exec (.chillerReport .plant (some { state := 1, rate := none })) s =
      .next (answered .plant (ok []) (s.modCold fun x =>
        { x with chiller := { running := false, rate := 0, time := s.port.clock, fresh := true, staleTimer := some 10000 } }))) ∧
    (∀ a : ChillerArgs, 1 < a.state ∨ (a.state = 0 ∧ (a.rate = none ∨ ∃ r, a.rate = some r ∧ 5000 < r)) →
      exec (.chillerReport .plant (some a)) s =
        .next (refusedAs (.chillerReport .plant (some a)) .plant (refuse .badValue) s)) ∧
    (s.cold.chiller.fresh = true → s.cold.chiller.running = true →
      exec .rechargeStep s =
        .next (tryAdmission (s.modCold fun x =>
          { x with rechargeTimer := 1000, reserve := min (x.reserve + x.chiller.rate) x.config.capacity }))) ∧
    (s.cold.chiller.fresh = false ∨ s.cold.chiller.running = false →
      exec .rechargeStep s = .next (tryAdmission (s.modCold fun x => { x with rechargeTimer := 1000 })))

/-- R79: trimming brings the sum of the claims down to the reserve exactly, lowers no claim before every newer one is 0, sets the
cold-shortfall flag of a session whose claim it lowers to 0, and changes nothing else of a session. -/
def Obligations.TrimLowersNewestClaimsFirst : Prop :=
  ∀ (s : State),
    let t := trimClaims s
    claimSum t = min (claimSum s) s.cold.reserve ∧ t.cold = s.cold ∧
    (∀ d, (t.sess d).claim ≤ (s.sess d).claim ∧
      t.sess d = { s.sess d with
        claim := (t.sess d).claim,
        coldShortfall := (s.sess d).coldShortfall || decide ((t.sess d).claim = 0 ∧ (s.sess d).claim ≠ 0) }) ∧
    (∀ d e, (s.sess d).stamp.getD 0 < (s.sess e).stamp.getD 0 → (t.sess d).claim < (s.sess d).claim → (t.sess e).claim = 0)

/-- R71: the class a downgrade takes is below the present one, is usable, and no class between them is; the session keeps its state
and its claim, and the ramp starts again from the last hose pressure. R85, R86, R87: a draw of an increase of grams in a state that
draws. The accumulator keeps the thousandths; the whole kilojoules leave the claim and the reserve, and the claims are trimmed. A draw
above the reserve empties it, sets the session's cold-shortfall flag and moves a session before CLOSING one class down where a lower one
is usable; no other session changes class. -/
def Obligations.DrawAndDowngrade : Prop :=
  (∀ (d : Disp) (k x : ColdClass) (h : HoseClass) (band : Nat) (s : State),
      (s.sess d).hoseClass = some h → (s.sess d).band = some band → (s.sess d).classNow = some k → downgradeClass s d = some x →
        coldClassCode k < coldClassCode x ∧ (s.profile h).cell band x ≠ 0 ∧ (h = .h70 → x ≠ .n) ∧
        (∀ y, coldClassCode k < coldClassCode y → coldClassCode y < coldClassCode x → (s.profile h).cell band y = 0) ∧
        (let t := moveToClass d x s
         (t.sess d).classNow = some x ∧ (t.sess d).aprr = (s.profile h).cell band x ∧
         (t.sess d).rampBaseline = (s.sess d).hosePressure ∧ (t.sess d).rampClock = 0 ∧
         (t.sess d).lastCeiling = min ((s.sess d).hosePressure + (s.profile h).dpUp) (hoseLimit h) ∧
         (t.sess d).exceedTimer = none ∧ (t.sess d).phase = (s.sess d).phase ∧ (t.sess d).claim = (s.sess d).claim ∧
         t.cold = s.cold ∧ t.lane = s.lane ∧ t.inv = s.inv)) ∧
  (∀ (d : Disp) (grams : Nat) (x : ColdClass) (s : State),
      (s.sess d).classNow = some x → loadOf s.cold.config x ≠ 0 → (s.sess d).phase.draws = true →
        let total := (s.sess d).drawAcc + grams * loadOf s.cold.config x
        let u := s.modSess d fun r => { r with drawAcc := total % 1000, claim := r.claim - total / 1000 }
        (total / 1000 = 0 → drawMass d grams s = s.modSess d fun r => { r with drawAcc := total % 1000 }) ∧
        (total / 1000 ≠ 0 → total / 1000 ≤ s.cold.reserve →
          drawMass d grams s = trimClaims (u.modCold fun q => { q with reserve := q.reserve - total / 1000 })) ∧
        (s.cold.reserve < total / 1000 →
          let t := drawMass d grams s
          t.cold = { s.cold with reserve := 0 } ∧ (∀ e, (t.sess e).claim = 0) ∧ (t.sess d).coldShortfall = true ∧
          (t.sess d).drawAcc = total % 1000 ∧ (t.sess d).phase = (s.sess d).phase ∧ (t.sess d).reason = (s.sess d).reason ∧
          ((s.sess d).phase.active = false ∨ downgradeClass s d = none →
            (t.sess d).classNow = some x ∧ (t.sess d).rampBaseline = (s.sess d).rampBaseline ∧
            (t.sess d).exceedTimer = (s.sess d).exceedTimer) ∧
          (∀ y, (s.sess d).phase.active = true → downgradeClass s d = some y →
            (t.sess d).classNow = some y ∧ (t.sess d).rampBaseline = (s.sess d).hosePressure ∧ (t.sess d).rampClock = 0 ∧
            (t.sess d).exceedTimer = none) ∧
          (∀ e, e ≠ d → (t.sess e).classNow = (s.sess e).classNow)))

/-! ### Lane Arbiter -/

/-- R96, R97: a bank is eligible for a session exactly where it is IN_SERVICE and FRESH, serves the session's hose class, is not in its
bank-use list, and is at least the start margin above its hose pressure, whoever holds the bank's lane. The best bank among the eligible
and free ones has the lowest tier, then the lowest last pressure, then the lowest number; where none is eligible and free there is none.
Outside SHUTDOWN that is the bank the arbiter grants (R98, R114). -/
def Obligations.BestBankByTierPressureNumber : Prop :=
  ∀ (s : State) (d : Disp),
    let best := bestOf s (Bank.all.filter fun b => eligible s d b && bankFree s b)
    (∀ b, eligible s d b = true ↔
      (s.bank b).service = .inService ∧ (s.bank b).fresh = true ∧
      (((s.sess d).hoseClass = some .h70 ∧ (s.bank b).servesH70 = true) ∨
        ((s.sess d).hoseClass = some .h35 ∧ (s.bank b).servesH35 = true)) ∧
      b ∉ (s.sess d).bankUse.map (·.bank) ∧ (s.sess d).hosePressure + s.lane.settings.dpStart ≤ (s.bank b).pressure) ∧
    (best = none ↔ ∀ b, ¬ (eligible s d b = true ∧ (s.bank b).holder = none)) ∧
    (∀ b, best = some b →
      eligible s d b = true ∧ (s.bank b).holder = none ∧
      ∀ x, x ≠ b → eligible s d x = true → (s.bank x).holder = none →
        (s.bank b).tier < (s.bank x).tier ∨
        ((s.bank b).tier = (s.bank x).tier ∧
          ((s.bank b).pressure < (s.bank x).pressure ∨
            ((s.bank b).pressure = (s.bank x).pressure ∧ b.toNat < x.toNat)))) ∧
    (s.fault.mode ≠ .shutdown → bestBank s d = best)

/-- R95, R99, R105, R110, R112: LANE_SETTINGS, REFILL_STOP, VALVE_REPORT and the expiry of a yield timer. New settings act on every
waiter and run the pass; REFILL_STOP ends the named run without REFILL_DONE; VALVE_REPORT faults the bank, at STOP, and frees its lane;
a sole due waiter without a free bank takes the compressor's lane. The layout of the refill record in the reply of REFILL_STOP and the
yield inside one pass are the model's reading (assumptions 3, 16, 18 and 29); that a running timer expires whatever it shows as left is its
choice (assumption 8). -/
def Obligations.LaneCommandsAndYield : Prop :=
  ∀ (s : State), s.powered = true →
    (∀ a : LaneSettingsArgs,
      let i := Instr.laneSettings .plant (some a)
      let fits : Prop := 100 ≤ a.switchTime ∧ a.switchTime ≤ 5000 ∧ 100 ≤ a.dpStart ∧ a.dpStart ≤ 2000 ∧ 100 ≤ a.dpSwitch ∧
        a.dpSwitch ≤ 2000 ∧ 1 ≤ a.yieldTime ∧ a.yieldTime ≤ 120 ∧ a.dpSwitch < a.dpStart
      (¬ fits → exec i s = .next (refusedAs i .plant (refuse .badValue) s)) ∧
      (fits →
        exec i s = .next (answered .plant (ok [.num a.switchTime, .num a.dpStart, .num a.dpSwitch, .num a.yieldTime])
          (arbiterPass (s.modLane fun l =>
            { l with
              settings := { switchTime := a.switchTime, dpStart := a.dpStart, dpSwitch := a.dpSwitch, yieldTime := a.yieldTime },
              waitList := l.waitList.map fun w =>
                if w.due then w
                else if a.yieldTime * 1000 ≤ w.waited then { w with yieldTimer := none, due := true }
                else { w with yieldTimer := some (a.yieldTime * 1000 - w.waited) } }))))) ∧
    (∀ n : Nat,
      let i := Instr.refillStop .plant (some n)
      (5 < n → exec i s = .next (refusedAs i .plant (refuse .badValue) s)) ∧
      (∀ b, Bank.ofNat? n = some b →
        (s.lane.refill.state = .none ∨ s.lane.refill.bank ≠ some b →
          exec i s = .next (refusedAs i .plant (refuse .notAllowed) s)) ∧
        (s.lane.refill.state ≠ .none → s.lane.refill.bank = some b →
          ∃ t, exec i s = .next t ∧ t.lane.refill.outcome = some { bank := b, reason := .stopped } ∧
            t.port.slots.plant = ok (refillVals t.lane.refill) ∧
            t.port.plantEvents.refillDone = s.port.plantEvents.refillDone ∧
            (t.lane.valves.get b).get .compressor = false ∧
            (s.inv.compressor.state ≠ .available → t.lane.refill.state = .none ∧ (t.bank b).holder ≠ some .compressor)))) ∧
    (∀ (a : ValveArgs),
      let i := Instr.valveReport .plant (some a)
      (5 < a.bank ∨ 4 < a.consumer → exec i s = .next (refusedAs i .plant (refuse .badValue) s)) ∧
      (∀ b c, Bank.ofNat? a.bank = some b → consumerOf a.consumer = some c → s.fault.severity.valveFault = .stop →
        lanesLawful s = true → sessionsLawful s = true →
          ∃ t, exec i s = .next t ∧ t.port.slots.plant = ok [] ∧ t.port.plantEvents.faultRecorded = true ∧
            (t.bank b).service = (if (s.bank b).service = .unconfigured then .unconfigured else .fault) ∧
            (t.bank b).holder = none ∧
            (s.fault.firstSevere = none → t.fault.firstSevere.map (fun x => (x.kind, x.site, x.consumer)) =
              some (.valveFault, .bank b, some c)))) ∧
    (∀ d : Disp,
      ((s.lane.waitList.any fun w => w.disp == d && w.yieldTimer.isSome) = false → exec (.yieldTimerExpiry d) s = .next s) ∧
      ((s.lane.waitList.any fun w => w.disp == d && w.yieldTimer.isSome) = true →
        exec (.yieldTimerExpiry d) s =
          .next (arbiterPass (s.modLane fun l =>
            { l with waitList := l.waitList.map fun w => if w.disp = d then { w with yieldTimer := none, due := true } else w }))) ∧
      (∀ w b, s.lane.waitList = [w] → w.disp = d → w.yieldTimer.isSome = true → s.fault.mode ≠ .shutdown →
        bestBank s d = none → s.lane.refill.state ≠ .none → s.lane.refill.bank = some b → eligible s d b = true →
          ∃ t, exec (.yieldTimerExpiry d) s = .next t ∧ (t.bank b).holder = some (.disp d) ∧
            (t.sess d).phase = .switching ∧ (t.sess d).currentBank = some b ∧
            t.lane.refill.outcome = some { bank := b, reason := .yielded } ∧
            { bank := b, time := s.lane.refill.requestTime.getD 0 } ∈ t.lane.deferred ∧
            (s.lane.refill.state = .running → t.port.plantEvents.refillSuspended = true) ∧
            t.port.plantEvents.refillDone = s.port.plantEvents.refillDone))

/-! ### Meter Unit -/

/-- R116, R117, R119, R120: a meter pulse. The totalizer counts it, wrapping to 0. In FLOWING, BANK_WAIT, CLOSING and SWITCHING with
flow begun it counts to the session, whose mass is recomputed from the whole count, whose open-session slot follows, whose last bank is
credited with the increase, and which the increase ends at its budget. Otherwise it is unaccounted, and the threshold of 20 g clears
the counter and raises LEAK_FLOW. -/
def Obligations.MeterPulseIsCounted : Prop :=
  ∀ (d : Disp) (s : State), s.powered = true →
    let r := s.sess d
    let counts : Prop := r.phase = .flowing ∨ r.phase = .bankWait ∨ r.phase = .closing ∨ (r.phase = .switching ∧ r.flowBegun = true)
    let m := (r.pulses + 1) * 1000 / r.k
    let totalizers := s.log.retained.totalizers.set d ((s.log.retained.totalizers.get d + 1) % 4294967296)
    (counts →
      ∃ t, exec (.meterPulse d) s = .next t ∧ (t.sess d).pulses = r.pulses + 1 ∧ (t.sess d).mass = m ∧ (t.sess d).k = r.k ∧
        (t.sess d).bankUse = creditLast (m - r.mass) r.bankUse ∧ t.log.retained.totalizers = totalizers ∧
        t.meter = s.meter ∧ t.ramp = s.ramp ∧ t.log.array = s.log.array ∧
        ((s.log.retained.slots.get d).isSome = true →
          (t.log.retained.slots.get d).map (·.pulses) = some (r.pulses + 1)) ∧
        (r.mass < m → r.phase ≠ .closing → r.budget ≤ m →
          (t.sess d).reason = some .budgetReached ∧ (t.sess d).phase.active = false) ∧
        (m < r.budget → (t.sess d).phase = r.phase ∧ (t.sess d).reason = r.reason)) ∧
    (¬ counts →
      let n := s.meter.unaccounted.get d + 1
      let limit := (s.meter.factor.get d + 49) / 50
      let u (x : Nat) : State :=
        { s with
          meter := { s.meter with unaccounted := s.meter.unaccounted.set d x },
          log := { s.log with retained := { s.log.retained with totalizers := totalizers } } }
      (n < limit → exec (.meterPulse d) s = .next (u n)) ∧
      (limit ≤ n → exec (.meterPulse d) s = .next (raiseDisp .leakFlow d (u 0))))

/-- R123: CAL_UNLOCK with the switch deasserted is refused NOT_ALLOWED and the window keeps its state; with the switch asserted it
opens the window, or sets it back, to 4, and is not counted. -/
def Obligations.CalUnlockOpensWindow : Prop :=
  ∀ (s : State), s.powered = true →
    (s.meter.calSwitch = false →
      exec (.calUnlock .plant) s = .next (placeReply .plant (refuse .notAllowed) s)) ∧
    (s.meter.calSwitch = true →
      exec (.calUnlock .plant) s =
        .next { s with
          meter := { s.meter with window := 4 },
          port := { s.port with
            slots := s.port.slots.set .plant (ok [.num 4]), attention := s.port.attention.set .plant false } })

/-- R122, R125, R126: a change of the calibration switch, and SET_METER_FACTOR with its six checks in order. An accepted change writes
the factor, the counter and the pending change together, reserves a slot and queues its record. That the reply carries the dispenser in
4 bytes is the model's reading (assumption 29). -/
def Obligations.CalibrationSwitchAndFactor : Prop :=
  ∀ (s : State), s.powered = true →
    (∀ x : Bool, s.meter.calSwitch = x → exec (.calSwitchChange x) s = .next s) ∧
    (s.meter.calSwitch = false →
      let u := s.modMeter fun m => { m with calSwitch := true }
      ((∀ d, (s.sess d).phase = .idle) → exec (.calSwitchChange true) s = .next u) ∧
      ((∃ d, (s.sess d).phase ≠ .idle) → exec (.calSwitchChange true) s = .next (raiseStation .calSwitch u))) ∧
    (s.meter.calSwitch = true →
      exec (.calSwitchChange false) s =
        .next { s with
          meter := { s.meter with calSwitch := false, window := 0 },
          port := { s.port with attention := s.port.attention.set .plant s.port.plantEvents.any } }) ∧
    (∀ (a : MeterFactorArgs),
      let i := Instr.setMeterFactor .plant (some a)
      let no (st : Status) : Prop := exec i s = .next (refusedAs i .plant (refuse st) s)
      (s.meter.window = 0 → no .notAllowed) ∧
      (s.meter.window ≠ 0 → 3 < a.disp ∨ a.factor < 100 ∨ 100000 < a.factor → no .badValue) ∧
      (∀ d, s.meter.window ≠ 0 → Disp.ofNat? a.disp = some d → 100 ≤ a.factor → a.factor ≤ 100000 →
        (4294967295 ≤ s.meter.metrology → no .notAllowed) ∧
        (s.meter.metrology < 4294967295 →
          let free := (s.sess d).phase = .idle ∧ (∀ x, s.meter.change = some x → x.recorded = true) ∧
            s.log.queue.length < 8 ∧ 1 ≤ freeSlots s
          (¬ free → no .busy) ∧
          (free →
            let old := s.meter.factor.get d
            let change : PendingChange :=
              { disp := d, oldFactor := old, newFactor := a.factor, counter := s.meter.metrology + 1, time := s.port.clock,
                timeUnset := !s.port.clockSet, recorded := false }
            let record : LogRecord :=
              .cal { disp := d, station := 0, seq := 0, time := s.port.clock, oldFactor := old, newFactor := a.factor,
                     counter := s.meter.metrology + 1, timeUnset := !s.port.clockSet }
            ∃ t, exec i s = .next t ∧
              t.port.slots.plant = ok [.num d.toNat, .num old, .num a.factor, .num (s.meter.metrology + 1)] ∧
              t.meter =
                { s.meter with
                  factor := s.meter.factor.set d a.factor, metrology := s.meter.metrology + 1, change := some change,
                  window := s.meter.window - 1 } ∧
              (s.log.op ≠ .idle → t.log.reserved = s.log.reserved + 1 ∧
                t.log.queue = s.log.queue ++ [{ source := .calibration, record := record }]) ∧
              (∀ v, s.log.op = .idle → s.log.queue = [] → s.log.view = some v → s.log.offers = [] →
                t.log.reserved = s.log.reserved ∧ t.log.queue = [] ∧
                t.log.op =
                  .committing
                    { source := .calibration, record := record.stamped s.port.stationId (v.newest.getD 0 + 1) }
                    v.writePos (v.newest.getD 0 + 1)) ∧
              t.unit = s.unit ∧ t.inv = s.inv ∧ t.auth = s.auth ∧ t.fault = s.fault ∧ t.cold = s.cold ∧ t.lane = s.lane))))

/-- R121, R125: no command lowers the metrology event counter; it rises by exactly one at an accepted SET_METER_FACTOR, within the
calibration window and with the dispenser IDLE, and only then does a meter factor change. -/
def Obligations.FactorChangesOnlyWithCounter : Prop :=
  ∀ (i : Instr) (s t : State), exec i s = .next t →
    (t.meter.metrology = s.meter.metrology ∧ t.meter.factor = s.meter.factor) ∨
    ∃ (a : MeterFactorArgs) (d : Disp),
      i = .setMeterFactor .plant (some a) ∧ Disp.ofNat? a.disp = some d ∧ s.meter.window ≠ 0 ∧ (s.sess d).phase = .idle ∧
      t.meter.metrology = s.meter.metrology + 1 ∧ t.meter.factor = s.meter.factor.set d a.factor

/-! ### Authorization Table -/

/-- R130, R131: SET_PRICE and CLEAR_PRICE; an AUTHORIZE that names an invalid line is refused. The reply of SET_PRICE carries the line as
its number and its price behind a presence byte, which is the model's reading (assumption 16). R137, R138: CANCEL_AUTH frees a PENDING
entry without an event; the expiry of a PENDING entry frees it with AUTH_EXPIRED, whatever its timer shows as left, which is the model's
choice (assumption 8); a BOUND entry is refused BUSY and does not expire. -/
def Obligations.PriceLinesAndPendingEntries : Prop :=
  ∀ (s : State), s.powered = true →
    let u := endStream .sales s
    (∀ a : PriceArgs,
      (7 < a.line ∨ a.price < 1 ∨ 100000 < a.price →
        exec (.setPrice .sales (some a)) s =
          .next (refusedAs (.setPrice .sales (some a)) .sales (refuse .badValue) s)) ∧
      (a.line ≤ 7 → 1 ≤ a.price → a.price ≤ 100000 →
        exec (.setPrice .sales (some a)) s =
          .next (answered .sales (ok [.num a.line, .present true, .num a.price])
            { u with auth := { u.auth with tariffs := u.auth.tariffs.set a.line (some a.price) } }))) ∧
    (∀ n : Nat,
      (7 < n →
        exec (.clearPrice .sales (some n)) s =
          .next (refusedAs (.clearPrice .sales (some n)) .sales (refuse .badValue) s)) ∧
      (n ≤ 7 →
        exec (.clearPrice .sales (some n)) s =
          .next (answered .sales (ok []) { u with auth := { u.auth with tariffs := u.auth.tariffs.set n none } }))) ∧
    (∀ a : AuthorizeArgs, s.auth.tariffs.getD a.line none = none →
      ∃ r, r.status ≠ .ok ∧
        exec (.authorize .sales (some a)) s = .next (refusedAs (.authorize .sales (some a)) .sales r s)) ∧
    (∀ n : Nat,
      let i := Instr.cancelAuth .sales (some n)
      let without (u : State) : State := { u with auth := { u.auth with entries := u.auth.entries.filter fun e => e.number != n } }
      (findEntry s n = none →
        exec i s = .next (refusedAs i .sales (refuse .notFound) s) ∧ exec (.authExpiry n) s = .next s) ∧
      (∀ e, findEntry s n = some e →
        (e.bound = true →
          exec i s = .next (refusedAs i .sales (refuse .busy) s) ∧ exec (.authExpiry n) s = .next s) ∧
        (e.bound = false →
          exec i s = .next (answered .sales (ok []) (without (endStream .sales s))) ∧
          (e.timer.isSome = true → exec (.authExpiry n) s = .next (addSalesEvent .authExpired (without s))))))

/-- R133, R134, R136: AUTHORIZE, its checks in order, and the entry an accepted one makes. The amount of its budget never exceeds its
limit (R136). -/
def Obligations.AuthorizeMakesEntry : Prop :=
  ∀ (a : AuthorizeArgs) (d : Disp) (kind : AuthKind) (s : State), s.powered = true →
    Disp.ofNat? a.disp = some d → authKindOf a.kind = some kind →
      let i := Instr.authorize .sales (some a)
      let no (st : Status) : Prop := exec i s = .next (refusedAs i .sales (refuse st) s)
      let fits : Prop := a.account ≤ 4294967295 ∧ a.group ≤ 255 ∧ a.line ≤ 7 ∧ 1 ≤ a.limit ∧ a.limit ≤ 10000000 ∧
        10 ≤ a.expiry ∧ a.expiry ≤ 3600 ∧ (∀ m, a.preset = some m → 1 ≤ m ∧ m ≤ 1000000) ∧
        (kind = .single → a.vehicles = none) ∧ (kind = .fleetRun → ∃ n, a.vehicles = some n ∧ 1 ≤ n ∧ n ≤ 255) ∧
        (kind = .fleetRun → 1 ≤ a.group)
      let taken : Prop := ∃ e ∈ s.auth.entries, e.disp = d
      (¬ fits → no .badValue) ∧
      (fits → taken → no .notAllowed) ∧
      (fits → ¬ taken → s.auth.tariffs.getD a.line none = none → no .badValue) ∧
      (∀ price, fits → ¬ taken → s.auth.tariffs.getD a.line none = some price →
        (16 ≤ s.auth.entries.length → no .busy) ∧
        (s.auth.entries.length < 16 →
          let number := nextNumber s.auth
          let b := min (a.limit * 1000 / price) 4294967295
          let budget := match a.preset with
            | none => b
            | some m => min b m
          let e : AuthEntry :=
            { number := number, disp := d, kind := kind, account := a.account, group := a.group, line := a.line, price := price,
              limit := a.limit, preset := a.preset, budget := budget, vehicles := a.vehicles, expiry := a.expiry,
              timer := some (a.expiry * 1000), bound := false, revokeOnClose := false }
          exec i s =
            .next (answered .sales (ok [.num number, .num price, .num budget])
              (addDispEvent d .authReady
                ((endStream .sales s).modAuth fun t => { t with entries := insertEntry e t.entries, lastNumber := number }))) ∧
          amountOf budget price ≤ a.limit))

/-- R135: the number assigned is the first after the last-assigned one, with 65535 followed by 1, that no entry holds; it becomes the
last-assigned one, which is 0 after either reset. -/
def Obligations.AuthNumberIsFirstFree : Prop :=
  (∀ (x : AuthTable), x.entries.length ≤ 16 → x.lastNumber ≤ 65535 →
    let after (k : Nat) : Nat := numberAfter^[k + 1] x.lastNumber
    ∃ k ≤ 16, nextNumber x = after k ∧ (∀ e ∈ x.entries, e.number ≠ after k) ∧
      (∀ j < k, ∃ e ∈ x.entries, e.number = after j)) ∧
  (∀ n : Nat, n < 65535 → numberAfter n = n + 1) ∧ numberAfter 65535 = 1 ∧
  (∀ (a : AuthorizeArgs) (s t : State), s.powered = true → exec (.authorize .sales (some a)) s = .next t →
    t.port.slots.sales.status = .ok →
      t.auth.lastNumber = nextNumber s.auth ∧ ∃ e ∈ t.auth.entries, e.number = nextNumber s.auth) ∧
  (∀ (s t : State), exec .powerOnReset s = .next t → t.auth.lastNumber = 0) ∧
  (∀ (s t : State), s.powered = true → exec .warmReset s = .next t → t.auth.lastNumber = 0)

/-- R144 to R147: REVOKE. A mode that is none of the two is refused BAD_VALUE, and a REVOKE while one is in progress BUSY. DRAIN frees the
matching PENDING entries, marks the matching BOUND ones with their sessions, and waits for those sessions. IMMEDIATE also ends the
sessions before CLOSING with REVOKED: the entry of one ended without a record is freed, and those of the others stay, marked, and are
waited for. The reply carries the performed scope, the entries freed, the entries marked, and whether a revocation is in progress. Entries
that do not match stay. The order inside IMMEDIATE is the model's (assumptions 11 and 24). The code of NONE (4) is the model's choice
(assumption 30), and those of yes and no (0 and 1) are its reading (assumption 3). -/
def Obligations.RevokeFreesAndMarks : Prop :=
  ∀ (a : RevokeArgs) (s : State), s.powered = true → authLawful s = true →
    let i := Instr.revoke .sales (some a)
    let hit (e : AuthEntry) : Bool :=
      a.scope == 0 || (a.scope == 1 && a.value != 0 && e.group == a.value) || (a.scope == 2 && e.account == a.value) ||
      (a.scope == 3 && e.number == a.value)
    let marked (d : Disp) : Bool := s.auth.entries.any fun e => hit e && e.bound && e.disp == d
    let waits (t : State) (d : Disp) : Bool := marked d && (t.sess d).phase != .idle
    let bound : Nat := (s.auth.entries.filter fun e => hit e && e.bound).length
    let pend : Nat := (s.auth.entries.filter fun e => hit e && !e.bound).length
    let reply (t : State) : Reply :=
      ok [.byte (if s.auth.entries.any hit then a.scope else 4), .num (pend + (bound - (Disp.all.filter (waits t)).length)), .num bound,
        .byte (if Disp.all.any (waits t) then 0 else 1)]
    let progress (t : State) (mode : RevokeMode) : Prop :=
      ((∀ d, waits t d = false) → t.auth.revocation = none ∧ t.port.salesEvents.revokeDone = true) ∧
      (∀ d, waits t d = true →
        ∃ r, t.auth.revocation = some r ∧ r.mode = mode ∧ scopeCode r.scope = a.scope ∧ ∀ f, r.outstanding.get f = waits t f)
    (1 < a.mode → exec i s = .next (refusedAs i .sales (refuse .badValue) s)) ∧
    (a.mode ≤ 1 → s.auth.revocation.isSome = true → exec i s = .next (refusedAs i .sales (refuse .busy) s)) ∧
    (a.mode = 0 → s.auth.revocation = none →
      ∃ t, exec i s = .next t ∧ t.port.slots.sales = reply t ∧ progress t .drain ∧
        t.auth.entries = (s.auth.entries.filter fun e => !(hit e && !e.bound)).map
          (fun e => if hit e then { e with revokeOnClose := true } else e) ∧
        (∀ d, t.sess d = { s.sess d with revokeOnClose := (s.sess d).revokeOnClose || marked d }) ∧
        t.inv = s.inv ∧ t.lane = s.lane ∧ t.cold = s.cold ∧ t.fault = s.fault) ∧
    (a.mode = 1 → s.auth.revocation = none →
      ∃ t, exec i s = .next t ∧ t.port.slots.sales = reply t ∧ progress t .immediate ∧
        (∀ e ∈ t.auth.entries, hit e = true → e.bound = true ∧ e.revokeOnClose = true) ∧
        (∀ e ∈ s.auth.entries, hit e = true → e.bound = true →
          ((t.sess e.disp).phase ≠ .idle → { e with revokeOnClose := true } ∈ t.auth.entries) ∧
          ((s.sess e.disp).phase.active = true → (t.sess e.disp).phase = .idle → ∀ x ∈ t.auth.entries, x.number ≠ e.number)) ∧
        (∀ e ∈ s.auth.entries, hit e = false →
          (e.bound = false → e ∈ t.auth.entries) ∧
          (e.bound = true → e.revokeOnClose = false → ∃ x ∈ t.auth.entries, x.number = e.number)) ∧
        (∀ d, marked d = true → (s.sess d).phase.active = true →
          (t.sess d).reason = some .revoked ∧ (t.sess d).phase.active = false ∧
          ((s.sess d).flowBegun = false → (s.sess d).pulses = 0 → (t.sess d).phase = .idle) ∧
          ((s.sess d).flowBegun = true ∨ (s.sess d).pulses ≠ 0 →
            (t.sess d).phase = if s.settleTime = 0 then .commitWait else .closing)) ∧
        (sessionsLawful s = true → ∀ d, (s.sess d).phase = .closing ∨ (s.sess d).phase = .commitWait →
          (t.sess d).phase = (s.sess d).phase ∧ (t.sess d).reason = (s.sess d).reason))

/-! ### Log Controller -/

/-- R161 to R164: EXPORT_START, EXPORT_NEXT and RELEASE, NOT_READY until the start-up scan has completed. A number out of bounds leaves
the stream mode and the cursor as they were; a payload out of form, as any other refused request, ends stream mode. That last point is
the model's reading of R162 with R163 (assumption 21). -/
def Obligations.ExportAndRelease : Prop :=
  ∀ (s : State), s.powered = true →
    let l := s.log
    (l.view = none →
      (∀ a, exec (.exportStart .sales a) s = .next (refusedAs (.exportStart .sales a) .sales (refuse .notReady) s)) ∧
      exec (.exportNext .sales) s = .next (refusedAs (.exportNext .sales) .sales (refuse .notReady) s) ∧
      (∀ a, exec (.release .sales a) s = .next (refusedAs (.release .sales a) .sales (refuse .notReady) s))) ∧
    (∀ v, l.view = some v →
      exec (.exportStart .sales (some none)) s =
        .next (answered .sales (ok [.num (l.retained.release + 1)])
          { s with log := { l with cursor := l.retained.release + 1, stream := true } }) ∧
      exec (.exportStart .sales none) s = .next (refusedAs (.exportStart .sales none) .sales (refuse .badValue) s) ∧
      (∀ n : Nat,
        (n ≤ l.retained.release ∨ v.newest.getD 0 + 1 < n →
          exec (.exportStart .sales (some (some n))) s = .next (placeReply .sales (refuse .badValue) s)) ∧
        (l.retained.release < n → n ≤ v.newest.getD 0 + 1 →
          exec (.exportStart .sales (some (some n))) s =
            .next (answered .sales (ok [.num n]) { s with log := { l with cursor := n, stream := true } }))) ∧
      (l.stream = false →
        exec (.exportNext .sales) s = .next (refusedAs (.exportNext .sales) .sales (refuse .notAllowed) s)) ∧
      (l.stream = true →
        (v.newest.getD 0 < l.cursor → exec (.exportNext .sales) s = .next (answered .sales (ok []) s)) ∧
        (∀ r, l.cursor ≤ v.newest.getD 0 → Memory.read l.array ((l.cursor - 1) % 2048) = some r →
          exec (.exportNext .sales) s =
            .next (answered .sales (ok [.raw r.bytes])
              { s with log := { l with delivered := max l.delivered l.cursor, cursor := l.cursor + 1 } }))) ∧
      (∀ n : Nat,
        let pointer := max l.retained.release (min n l.delivered)
        let u : State :=
          { s with
            log := { l with
              stream := false, retained := { l.retained with release := pointer }, cursor := max l.cursor (pointer + 1) } }
        (pointer = l.retained.release → exec (.release .sales (some n)) s = .next (answered .sales (ok [.num pointer]) u)) ∧
        (l.retained.release < pointer →
          exec (.release .sales (some n)) s = .next (answered .sales (ok [.num pointer]) (chooseOperation u)))))

/-- R158, R49, R142, R126, R153, R170: the completions of the array's operations, here of ones begun
since the reset. A committed session record is in its slot, the session is IDLE, its open-session slot is
clear and its entry settled; a committed calibration record marks its change; a recovered sale record
clears its slot and settles no entry, and the last one to commit ends recovery; an erased block's 32
slots are free. One carried across a reset only writes or erases. -/
def Obligations.ArrayOperationsComplete : Prop :=
  ∀ (s : State) (slot seq block : Nat) (e : QueueEntry) (v : LogView),
    (s.log.op = .committing e slot seq → s.log.carried = true →
      exec .commitCompletion s =
        .next { s with log := { s.log with array := Memory.write s.log.array slot e.record, op := .idle, carried := false } }) ∧
    (s.log.op = .erasing block → s.log.carried = true →
      exec .eraseCompletion s =
        .next { s with log := { s.log with array := Memory.eraseBlock s.log.array block, op := .idle, carried := false } }) ∧
    (s.log.op = .idle → exec .commitCompletion s = .next s ∧ exec .eraseCompletion s = .next s) ∧
    (s.log.view = some v → s.log.carried = false → s.log.recoveryLeft = 0 → s.log.op = .committing e slot seq →
      (∀ d, e.source = .session d →
        ∃ t, exec .commitCompletion s = .next t ∧ t.log.array = Memory.write s.log.array slot e.record ∧
          t.log.view.map (·.newest) = some (some seq) ∧ t.port.salesEvents.saleCommitted = true ∧ (t.sess d).phase = .idle ∧
          t.log.retained.slots.get d = none ∧
          (∀ x, boundEntry s d = some x →
            (x.kind = .single ∨ x.vehicles.getD 0 ≤ 1 ∨ x.revokeOnClose = true →
              t.auth.entries = s.auth.entries.filter (fun y => y.number != x.number) ∧
              t.port.salesEvents.authConsumed = true) ∧
            (x.kind = .fleetRun → 1 < x.vehicles.getD 0 → x.revokeOnClose = false →
              t.auth.entries = s.auth.entries.map (fun y =>
                if y.number = x.number then
                  { y with
                    vehicles := y.vehicles.map (· - 1), budget := budgetOf y.limit y.price y.preset, bound := false,
                    timer := some (y.expiry * 1000) }
                else y))) ∧
          (∀ f, f ≠ d → t.sess f = s.sess f) ∧ t.inv = s.inv ∧ t.lane = s.lane ∧ t.meter = s.meter) ∧
      (e.source = .calibration →
        ∃ t, exec .commitCompletion s = .next t ∧ t.log.array = Memory.write s.log.array slot e.record ∧
          t.port.plantEvents.calRecorded = true ∧
          t.meter = { s.meter with change := s.meter.change.map fun x => { x with recorded := true } } ∧
          t.unit = s.unit ∧ t.auth = s.auth ∧ t.inv = s.inv)) ∧
    (s.log.view = some v → s.log.carried = false → s.log.op = .committing e slot seq → s.fault.mode = .starting →
      s.fault.demand = false → 1 ≤ s.log.recoveryLeft →
        ∀ d, e.source = .recovered d →
          ∃ t, exec .commitCompletion s = .next t ∧ t.log.array = Memory.write s.log.array slot e.record ∧
            t.log.view.map (·.newest) = some (some seq) ∧ t.port.salesEvents.saleCommitted = true ∧
            t.log.retained.slots.get d = none ∧ t.auth = s.auth ∧ t.unit = s.unit ∧ t.meter = s.meter ∧
            t.log.recoveryLeft = s.log.recoveryLeft - 1 ∧
            (s.log.recoveryLeft = 1 → t.log.recovering = false ∧ t.fault.mode = .restricted ∧
              (freeSlots t < 64 → t.port.salesEvents.logLow = true)) ∧
            (s.log.recoveryLeft ≠ 1 → t.log.recovering = s.log.recovering ∧ t.fault = s.fault)) ∧
    (s.log.view = some v → s.log.carried = false → s.log.op = .erasing block →
      ∃ t, exec .eraseCompletion s = .next t ∧ t.log.array = Memory.eraseBlock s.log.array block ∧
        (s.log.queue = [] → t.log.view.map (·.erased) = some (v.erased + 32)) ∧
        t.log.view.map (·.oldest) = some ((Memory.read s.log.array ((block + 1) % 64 * 32)).map LogRecord.seq) ∧
        t = { s with log := t.log })

/-- R167 to R170, R183: the completion of the start-up scan of an array without records and without a change to record. A valid marker
and empty open-session slots lead to RESTRICTED; the invalid marker of a new part raises RETAIN_LOST and leads to SHUTDOWN. -/
def Obligations.ScanLeavesStarting : Prop :=
  ∀ (s : State), s.powered = true →
    (s.log.view ≠ none ∨ s.log.op ≠ .idle → exec .scanCompletion s = .next s) ∧
    (s.log.view = none → s.log.op = .idle → s.log.array = [] → s.log.queue = [] → s.log.recoveryLeft = 0 →
      s.log.reserved = 0 → s.meter.change = none → s.fault.mode = .starting →
        let view : LogView := { erased := 2048, oldest := none, newest := none, writePos := 0 }
        (s.log.retained.marker = true → s.log.retained.slots = .same none → s.fault.demand = false →
          ∃ t, exec .scanCompletion s = .next t ∧ t.fault.mode = .restricted ∧
            t.log =
              { s.log with
                view := some view, cursor := s.log.retained.release + 1, delivered := s.log.retained.release,
                recovering := false } ∧
            t.port.plantEvents.modeChanged = true ∧ t.port.salesEvents.modeChanged = true ∧
            t.inv = s.inv ∧ t.unit = s.unit ∧ t.meter = s.meter) ∧
        (s.log.retained.marker = false → s.fault.severity.retainLost = .shutdown → (∀ d, (s.sess d).phase = .idle) →
          ∃ t, exec .scanCompletion s = .next t ∧ t.fault.mode = .shutdown ∧ t.fault.demand = false ∧
            t.log.retained = { marker := true, slots := .same none, release := 0, totalizers := .same 0 } ∧
            t.log.view = some view ∧ t.log.recovering = false ∧ t.port.plantEvents.faultRecorded = true ∧
            (s.fault.firstSevere = none →
              t.fault.firstSevere.map (fun x => (x.kind, x.site, x.severity)) = some (.retainLost, .station, .shutdown)) ∧
            t.meter = s.meter))

/-- R167, R168, R127, R154, R157, R161, R170: the completion of the start-up scan of an array whose newest record has number n (0: no
record), with a valid marker. An open-session slot whose record is found or that counted no pulse is cleared; every other occupied one is
recovered as a sale record, in dispenser order, and a pending change that is neither recorded nor found follows them. The first of these
starts its commit at once with number n + 1; the rest are queued, each with a reservation. With none of them recovery is complete: the
station is RESTRICTED, and LOG_LOW is added below 64 free slots. That a requeued change keeps whether the clock had been set is the
model's choice (assumption 15). -/
def Obligations.ScanRecoversRecords : Prop :=
  ∀ (n : Nat) (s : State), s.powered = true → s.log.view = none → s.log.op = .idle → s.log.queue = [] → s.log.offers = [] →
    s.log.reserved = 0 → s.log.recoveryLeft = 0 → s.log.retained.marker = true → s.fault.mode = .starting →
    s.fault.demand = false → (∀ c ∈ s.log.array, c.2.seq ≤ n) →
    (n = 0 ∧ s.log.array = []) ∨ (1 ≤ n ∧ ∃ c ∈ s.log.array, c.2.seq = n) →
      let found (d : Disp) (o : OpenSlot) : Bool := s.log.array.any fun c => match c.2 with
        | .sale r => o.committing == some r.seq && r.disp == d
        | .cal _ => false
      let changed (x : PendingChange) : Bool := s.log.array.any fun c => match c.2 with
        | .sale _ => false
        | .cal r => r.counter == x.counter
      let sale (d : Disp) (o : OpenSlot) : SaleRecord :=
        let m := o.pulses * 1000 / o.k
        { disp := d, station := 0, seq := 0, startTime := o.startTime, endTime := s.port.clock, authNumber := o.authNumber,
          group := o.group, line := o.line, account := o.account, price := o.price, limit := o.limit, mass := m,
          amount := min ((m * o.price + 500) / 1000) o.limit, k := o.k, metrology := o.metrology, soc := none,
          hoseClass := o.hoseClass, fillKind := o.fillKind, classAtStart := o.classAtStart, classAtEnd := o.classNow,
          reason := some .resetRecovered, timeUnset := o.startUnset || !s.port.clockSet,
          capped := decide (o.limit < (m * o.price + 500) / 1000), coldShortfall := o.coldShortfall, bankUse := o.bankUse }
      let recovers (d : Disp) : Option QueueEntry := (s.log.retained.slots.get d).bind fun o =>
        if o.pulses = 0 ∨ found d o = true then none else some { source := .recovered d, record := .sale (sale d o) }
      let change : List QueueEntry := match s.meter.change with
        | some x =>
          if x.recorded || changed x then []
          else [{ source := .calibration,
                  record := .cal { disp := x.disp, station := 0, seq := 0, time := x.time, oldFactor := x.oldFactor,
                                   newFactor := x.newFactor, counter := x.counter, timeUnset := x.timeUnset } }]
        | none => []
      let all : List QueueEntry := Disp.all.filterMap recovers ++ change
      ∃ t, exec .scanCompletion s = .next t ∧ t.log.array = s.log.array ∧ t.log.recoveryLeft = all.length ∧
        t.log.queue = all.drop 1 ∧ t.log.reserved = all.length - 1 ∧ t.log.cursor = s.log.retained.release + 1 ∧
        t.log.delivered = s.log.retained.release ∧
        t.log.view.map (·.erased) = some (2048 - s.log.array.length - min all.length 1) ∧
        t.log.view.map (·.newest) = some (if s.log.array = [] then none else some n) ∧
        t.log.retained = { s.log.retained with slots := t.log.retained.slots } ∧
        (∀ d, (t.log.retained.slots.get d).isSome = (recovers d).isSome) ∧
        t.meter = { s.meter with change := s.meter.change.map fun x => { x with recorded := x.recorded || changed x } } ∧
        t.unit = s.unit ∧ t.inv = s.inv ∧ t.auth = s.auth ∧ t.cold = s.cold ∧ t.lane = s.lane ∧
        (∀ e, all.head? = some e →
          t.log.op = .committing { e with record := e.record.stamped s.port.stationId (n + 1) } (n % 2048) (n + 1) ∧
          t.fault = s.fault ∧ t.port = s.port ∧ t.log.recovering = s.log.recovering) ∧
        (all = [] →
          t.fault = { s.fault with mode := .restricted } ∧ t.log.recovering = false ∧
          (t.port.salesEvents.logLow = true ↔
            s.port.salesEvents.logLow = true ∨ 2048 - s.log.array.length < 64 ∨ 4294967295 - n < 64))

/-- R153: an erase starts only for a block whose 32 slots all hold released records, and which does not hold the newest record. -/
def Obligations.EraseTakesReleasedBlocksOnly : Prop :=
  ∀ (i : Instr) (s t : State) (b : Nat),
    arrayLawful s = true → exec i s = .next t → t.log.op = .erasing b → s.log.op ≠ .erasing b →
      (∀ slot, b * 32 ≤ slot → slot < b * 32 + 32 →
        ∃ r, Memory.read t.log.array slot = some r ∧ r.seq ≤ t.log.retained.release) ∧
      ∃ v n, t.log.view = some v ∧ v.newest = some n ∧ (n - 1) % 2048 / 32 ≠ b

/-- R159, R160, R192: a record has 96 bytes, and the CRC-16 is 0 over bytes followed by their own check, over every record and over
every reply frame. -/
def Obligations.RecordsAndChecks : Prop :=
  (∀ r : SaleRecord, (LogRecord.sale r).bytes.length = 96) ∧
  (∀ r : CalRecord, (LogRecord.cal r).bytes.length = 96) ∧
  (∀ bs : List Byte, crc16 (bs ++ checkBytes bs) = 0#16) ∧
  (∀ r : LogRecord, crc16 r.bytes = 0#16) ∧
  (∀ r : Reply, crc16 r.frame = 0#16)

/-! ### Fault Monitor -/

/-- R171, R174, R176, R178: the raise of a fault up to its action. The context goes into the slot of its severity if that is empty,
and otherwise the kind into the slot's next-fault set; every counter of the kind counts, up to 65535; FAULT_RECORDED is added, and the
plant port's line follows unless the calibration window holds it (R124). Nothing else changes. -/
def Obligations.FaultIsCapturedAndCounted : Prop :=
  ∀ (kind : FaultKind) (site : Site) (named : Option Consumer) (s : State),
    let t := recordFault kind site named s
    let sev := s.fault.severity.get kind
    let joined (v : PerKind Bool) : PerKind Bool := v.set kind true
    t = { s with fault := t.fault, port := t.port } ∧
    t.port =
      { s.port with
        plantEvents := { s.port.plantEvents with faultRecorded := true },
        attention := s.port.attention.set .plant (s.meter.window == 0) } ∧
    t.fault =
      { s.fault with
        firstSevere := t.fault.firstSevere, nextSevere := t.fault.nextSevere, firstNote := t.fault.firstNote,
        nextNote := t.fault.nextNote,
        counters := s.fault.counters.map fun x =>
          if x.sel = some kind then { x with value := min (x.value + 1) 65535 } else x } ∧
    (∃ x : Context,
      x.kind = kind ∧ x.site = site ∧ x.severity = sev ∧ x.time = s.port.clock ∧ x.timeUnset = !s.port.clockSet ∧
      (∀ d, site = .disp d →
        x.phase = some (s.sess d).phase ∧ x.bank = (s.sess d).currentBank ∧
        ((s.sess d).phase = .idle → x.hosePressure = none ∧ x.trace = []) ∧
        ((s.sess d).phase ≠ .idle → x.hosePressure = some (s.sess d).hosePressure ∧ x.trace = (s.sess d).trace)) ∧
      (∀ b, site = .bank b → x.phase = none ∧ x.hosePressure = none ∧ x.bank = some b ∧ x.trace = []) ∧
      (site = .station → x.phase = none ∧ x.hosePressure = none ∧ x.bank = none ∧ x.trace = []) ∧
      x.consumer = (if kind = .valveFault then named else none) ∧
      (sev = .note →
        t.fault.firstSevere = s.fault.firstSevere ∧ t.fault.nextSevere = s.fault.nextSevere ∧
        (s.fault.firstNote = none → t.fault.firstNote = some x ∧ t.fault.nextNote = s.fault.nextNote) ∧
        (s.fault.firstNote ≠ none → t.fault.firstNote = s.fault.firstNote ∧ t.fault.nextNote = joined s.fault.nextNote)) ∧
      (sev ≠ .note →
        t.fault.firstNote = s.fault.firstNote ∧ t.fault.nextNote = s.fault.nextNote ∧
        (s.fault.firstSevere = none → t.fault.firstSevere = some x ∧ t.fault.nextSevere = s.fault.nextSevere) ∧
        (s.fault.firstSevere ≠ none →
          t.fault.firstSevere = s.fault.firstSevere ∧ t.fault.nextSevere = joined s.fault.nextSevere)))

/-- R173, R27, R50, R9, R183 to R185: the action of a fault, after its recording. At NOTE there is none. At STOP or above a dispenser is
locked, with LOCKED if it was not, and its session before CLOSING ends with the fault's own reason or FAULT_STOP; a bank in service or
isolated becomes FAULT and its lane is free; at STOP the station goes from RUN to RESTRICTED. At SHUTDOWN the station enters SHUTDOWN,
where no session is before CLOSING; in STARTING the demand is set instead. That the site's action comes before the entry is the model's
choice (assumption 25). -/
def Obligations.FaultActionFollowsSeverity : Prop :=
  ∀ (kind : FaultKind) (s : State),
    let sev := s.fault.severity.get kind
    let own : Reason :=
      match kind with
      | .linkLost => .linkLost
      | .rampOver => .rampOver
      | .pressureLimit => .pressureLimit
      | _ => .faultStop
    let running : Prop := s.fault.mode = .run ∨ s.fault.mode = .restricted
    let station (t : State) : Prop :=
      (sev = .stop → s.fault.severity.balanceMismatch ≠ .shutdown → t.fault.mode = s.fault.mode) ∧
      (sev = .shutdown →
        (s.fault.mode = .starting → t.fault.mode = .starting ∧ t.fault.demand = true) ∧
        (s.fault.mode = .shutdown → t.fault.mode = .shutdown) ∧
        (running → t.fault.mode = .shutdown ∧ t.port.plantEvents.modeChanged = true ∧ t.port.salesEvents.modeChanged = true ∧
          ∀ d, (t.sess d).phase.active = false))
    (∀ d : Disp,
      let t := raiseDisp kind d s
      (sev = .note → t = recordFault kind (.disp d) none s) ∧
      (sev ≠ .note →
        (∀ f, t.fault.locked.get f = (s.fault.locked.get f || f == d)) ∧
        (s.fault.locked.get d = false → (t.port.dispEvents.get d).locked = true) ∧
        ((s.sess d).phase.active = true → (t.sess d).phase.active = false ∧ (t.sess d).reason = some own) ∧
        ((s.sess d).phase.active = false → t.sess d = s.sess d)) ∧
      station t) ∧
    (∀ (b : Bank) (c : Option Consumer),
      let t := raiseBank kind b c s
      (sev = .note → t = recordFault kind (.bank b) c s) ∧
      (sev ≠ .note →
        (t.bank b).service = (if (s.bank b).service = .unconfigured then .unconfigured else .fault) ∧
        (lanesLawful s = true → (t.bank b).holder = none) ∧
        (∀ x, (s.bank b).holder = some x → lanesLawful s = true → (t.lane.valves.get b).get x = false) ∧
        ((s.bank b).service = .inService ∨ (s.bank b).service = .isolated →
          b ∉ t.lane.refillQueue ∧ b ∉ t.lane.deferred.map (·.bank))) ∧
      station t) ∧
    (let u := recordFault kind .station none s
     let t := raiseStation kind s
     (sev = .note → t = u) ∧
     (sev = .stop →
       (s.fault.mode = .run →
         t = addSalesEvent .modeChanged (addPlantEvent .modeChanged (u.modFault fun f => { f with mode := .restricted }))) ∧
       (s.fault.mode ≠ .run → t = u)) ∧
     (sev = .shutdown →
       (s.fault.mode = .starting → t = u.modFault fun f => { f with demand := true }) ∧
       (s.fault.mode = .shutdown → t = u) ∧
       (running → station t ∧ t.cold.queue = [] ∧ t.lane.waitList = [] ∧ t.lane.refillQueue = [] ∧ t.lane.deferred = [] ∧
         (∀ d, (s.sess d).phase.active = true → (t.sess d).reason = some .shutdown) ∧
         (∀ d, (s.sess d).phase.active = false → t.sess d = s.sess d) ∧ ∀ b, (t.bank b).holder = none)))

/-- R172, R177, R179, R187, R188, R190: SET_SEVERITY, never below the least severity; CLEAR_FAULTS, which returns what it empties;
COUNT_SELECT, which returns the selection and value before it. ESD_INPUT is raised where the latch is armed over an active input and where
the input becomes active over an armed latch; RESTART names the first condition that does not hold; CLEAR_LOCK clears one flag. That NONE is
carried as 0 and the bytes of the flags in the replies (armed 0, active 0, inactive 1, clear 1) are the model's reading (assumption 3), as
are the selection in the reply of COUNT_SELECT and the mode in a refusal of RESTART (assumption 33). -/
def Obligations.FaultMonitorCommands : Prop :=
  ∀ (s : State), s.powered = true →
    (∀ a : SeverityArgs,
      let i := Instr.setSeverity .plant (some a)
      (a.kind = 0 ∨ 14 < a.kind ∨ 2 < a.level → exec i s = .next (refusedAs i .plant (refuse .badValue) s)) ∧
      (∀ k x, faultKindOf a.kind = some k → severityOf a.level = some x →
        let y : Severity := if severityCode x < severityCode (leastSeverity k) then leastSeverity k else x
        exec i s = .next (answered .plant (ok [.byte a.kind, .byte (severityCode y)])
          (s.modFault fun f => { f with severity := f.severity.set k y })))) ∧
    (exec (.clearFaults .plant (some 0)) s =
      .next (answered .plant (ok [.raw (contextBytes s.fault.firstSevere), .kinds (kindSetCode s.fault.nextSevere)])
        (s.modFault fun f => { f with firstSevere := none, nextSevere := .same false }))) ∧
    (exec (.clearFaults .plant (some 1)) s =
      .next (answered .plant (ok [.raw (contextBytes s.fault.firstNote), .kinds (kindSetCode s.fault.nextNote)])
        (s.modFault fun f => { f with firstNote := none, nextNote := .same false }))) ∧
    (∀ n : Nat, 1 < n →
      exec (.clearFaults .plant (some n)) s =
        .next (refusedAs (.clearFaults .plant (some n)) .plant (refuse .badValue) s)) ∧
    (∀ a : CountSelectArgs, s.fault.counters.length = 4 →
      let i := Instr.countSelect .plant (some a)
      (3 < a.counter ∨ 14 < a.kind → exec i s = .next (refusedAs i .plant (refuse .badValue) s)) ∧
      (∀ x k, s.fault.counters[a.counter]? = some x → counterSelOf a.kind = some k →
        exec i s = .next (answered .plant (ok [.byte (optCode faultCode x.sel), .num x.value])
          (s.modFault fun f => { f with counters := f.counters.set a.counter { sel := k, value := 0 } })))) ∧
    (s.fault.esdArmed = true →
      exec (.armEsd .plant) s = .next (answered .plant (ok [.byte 0, .byte (if s.fault.esdActive then 0 else 1)]) s)) ∧
    (s.fault.esdArmed = false →
      let u := s.modFault fun f => { f with esdArmed := true }
      exec (.armEsd .plant) s =
        .next (answered .plant (ok [.byte 0, .byte (if s.fault.esdActive then 0 else 1)])
          (if s.fault.esdActive then raiseStation .esdInput u else u))) ∧
    (∀ x : Bool,
      let u := s.modFault fun f => { f with esdActive := x }
      (x = false ∨ s.fault.esdActive = true ∨ s.fault.esdArmed = false → exec (.esdInputChange x) s = .next u) ∧
      (x = true → s.fault.esdActive = false → s.fault.esdArmed = true →
        exec (.esdInputChange x) s = .next (raiseStation .esdInput u))) ∧
    (let no (reason : Nat) : Prop :=
       exec (.restart .plant) s =
         .next (answered .plant (refuseWith .notReady [.byte reason, .byte (modeCode s.fault.mode)]) s)
     (s.fault.mode = .starting → no 0) ∧
     (s.fault.mode ≠ .starting → s.fault.esdArmed = false → no 1) ∧
     (s.fault.mode ≠ .starting → s.fault.esdArmed = true → s.fault.esdActive = true → no 2) ∧
     (s.fault.mode ≠ .starting → s.fault.esdArmed = true → s.fault.esdActive = false →
       (s.fault.firstSevere ≠ none → no 3) ∧
       (s.fault.firstSevere = none → s.inv.table.state ≠ .valid → no 4) ∧
       (s.fault.firstSevere = none → s.inv.table.state = .valid →
         (s.fault.mode = .run → exec (.restart .plant) s = .next (answered .plant (ok [.byte 2]) s)) ∧
         (s.fault.mode ≠ .run →
           exec (.restart .plant) s =
             .next (answered .plant (ok [.byte 2])
               (addSalesEvent .modeChanged (addPlantEvent .modeChanged (s.modFault fun f => { f with mode := .run })))))))) ∧
    (∀ n : Nat,
      (3 < n → exec (.clearLock .plant (some n)) s = .next (refusedAs (.clearLock .plant (some n)) .plant (refuse .badValue) s)) ∧
      (∀ d, Disp.ofNat? n = some d →
        exec (.clearLock .plant (some n)) s =
          .next (answered .plant (ok [.byte 1]) (s.modFault fun f => { f with locked := f.locked.set d false }))))

/-- R187, R185, R53, R114: a change of the ESD input to active with the latch armed, in RUN or RESTRICTED, takes the station into
SHUTDOWN within the one event: no session is left before CLOSING, no permit is asserted, every lane is free, every route valve CLOSED
and every waiting list empty; each session it ended carries SHUTDOWN. The order within the entry is the model's (assumption 10). -/
def Obligations.EsdTripStopsStation : Prop :=
  ∀ (s : State), s.powered = true → s.fault.esdArmed = true → s.fault.esdActive = false →
    s.fault.severity.esdInput = .shutdown → s.fault.mode = .run ∨ s.fault.mode = .restricted → sessionsLawful s = true →
    lanesLawful s = true →
      ∃ t, exec (.esdInputChange true) s = .next t ∧ t.fault.mode = .shutdown ∧
        (∀ d, (t.sess d).phase.active = false ∧ (t.unit.get d).permit = false ∧
          ((s.sess d).phase.active = true → (t.sess d).reason = some .shutdown) ∧
          ((s.sess d).phase.active = false → t.sess d = s.sess d)) ∧
        (∀ b, (t.bank b).holder = none ∧ (t.bank b).requestTime = none ∧ ∀ x, (t.lane.valves.get b).get x = false) ∧
        t.cold.queue = [] ∧ t.lane.waitList = [] ∧ t.lane.refillQueue = [] ∧ t.lane.deferred = [] ∧
        t.lane.refill.state = .none ∧ t.port.plantEvents.faultRecorded = true ∧ t.port.plantEvents.modeChanged = true ∧
        t.port.salesEvents.modeChanged = true ∧ t.log.array = s.log.array ∧ t.meter = s.meter

/-! ### Port Interface, resets and supplies -/

/-- R191, R193, R163: the frames that carry no command. An empty frame outside stream mode puts OK with no payload into the slot and
does nothing else; on the sales port in stream mode it is a request for the record at the cursor. A frame that fails the check is
answered BAD_FRAME and raises FRAME_ERROR at the port's site, here at severity NOTE, and is counted by the window but ends no stream
mode. A frame with an unknown name is refused BAD_VALUE. R196, R197, R198: FETCH_EVENTS returns and empties the set of its own port and
deasserts its line; SET_TIME, SET_STATION_ID and the station clock. -/
def Obligations.PortInterfaceCommands : Prop :=
  ∀ (s : State), s.powered = true →
    (∀ p : Port,
      ((p = .sales → s.log.stream = false) → exec (.emptyFrame p) s = .next (placeReply p (ok []) s)) ∧
      (s.log.stream = true → exec (.emptyFrame .sales) s = exec (.exportNext .sales) s) ∧
      (s.fault.severity.frameError = .note →
        exec (.badFrame p) s =
          .next (answered p (refuse .badFrame)
            (recordFault .frameError (match p with
              | .disp d => .disp d
              | .plant => .station
              | .sales => .station) none s))) ∧
      exec (.unknownCommandName p) s = .next (refusedAs (.unknownCommandName p) p (refuse .badValue) s)) ∧
    (∀ p : Port,
      ∃ t, exec (.fetchEvents p) s = .next t ∧ t.port.slots.get p = ok [.byte (eventCode p s)] ∧ eventCode p t = 0 ∧
        t.port.attention.get p = false ∧
        (∀ q, q ≠ p → eventCode q t = eventCode q s ∧ t.port.attention.get q = s.port.attention.get q ∧
          t.port.slots.get q = s.port.slots.get q) ∧
        t.port =
          { s.port with
            slots := t.port.slots, attention := t.port.attention, dispEvents := t.port.dispEvents,
            plantEvents := t.port.plantEvents, salesEvents := t.port.salesEvents } ∧
        t.meter = { s.meter with window := if p = .plant then s.meter.window - 1 else s.meter.window } ∧
        t = { endStream p s with port := t.port, meter := t.meter }) ∧
    (∀ n : Nat,
      (4294967295 < n → exec (.setTime .sales (some n)) s = .next (refusedAs (.setTime .sales (some n)) .sales (refuse .badValue) s)) ∧
      (n ≤ 4294967295 →
        exec (.setTime .sales (some n)) s =
          .next (answered .sales (ok [.num n])
            { endStream .sales s with port := { s.port with clock := n, clockSet := true } })) ∧
      (n = 0 ∨ 65535 < n →
        exec (.setStationId .plant (some n)) s =
          .next (refusedAs (.setStationId .plant (some n)) .plant (refuse .badValue) s)) ∧
      (1 ≤ n → n ≤ 65535 →
        (s.port.idWritten = true →
          exec (.setStationId .plant (some n)) s =
            .next (refusedAs (.setStationId .plant (some n)) .plant (refuse .notAllowed) s)) ∧
        (s.port.idWritten = false →
          exec (.setStationId .plant (some n)) s =
            .next (answered .plant (ok [.num n]) { s with port := { s.port with stationId := n, idWritten := true } })))) ∧
    (s.port.clock < 4294967295 →
      exec .stationClockTick s = .next { s with port := { s.port with clock := s.port.clock + 1 } }) ∧
    (s.port.clock = 4294967295 → exec .stationClockTick s = .next { s with port := { s.port with clock := 0 } })

/-- R54, R91, R115, R143, R152, R166, R181, R187, R191, R198: what the two resets, the loss of main power and the loss of the backup
supply leave. The array, an operation in progress, the retained memory and the settings area stand; a warm reset keeps the sticky state
too, and raises ESD_INPUT where the latch is armed over an active input. Without main power requests have no effect (the model's reading,
assumption 6). The byte of the reason RESET that the slots hold, and the levels of the inputs at State.reset, are its choice (assumptions
30 and 2). What the retained numbers read after the backup supply has failed is free (assumption 1); that it is lost at once with main
power applied too is the model's reading (assumption 35). -/
def Obligations.ResetsAndSupplies : Prop :=
  ∀ (s : State),
    let meter : MeterUnit :=
      { factor := s.meter.factor, metrology := s.meter.metrology, change := s.meter.change, unaccounted := .same 0,
        calSwitch := s.meter.calSwitch, window := 0 }
    let log : LogController :=
      { State.reset.log with array := s.log.array, op := s.log.op, carried := s.log.op != .idle, retained := s.log.retained }
    let fresh : State :=
      { State.reset with
        meter := meter, log := log, fault := { State.reset.fault with esdActive := s.fault.esdActive },
        freeCount := s.freeCount, pending := s.pending }
    let kept : State :=
      { fresh with
        port := { State.reset.port with stationId := s.port.stationId, idWritten := s.port.idWritten },
        fault := { s.fault with mode := .starting, demand := false, locked := .same false } }
    exec .powerOnReset s = .next fresh ∧
    exec .powerLoss s = .next { fresh with powered := false } ∧
    (s.powered = true → s.fault.esdArmed = false ∨ s.fault.esdActive = false → exec .warmReset s = .next kept) ∧
    (s.powered = true → s.fault.esdArmed = true → s.fault.esdActive = true → s.fault.severity.esdInput = .shutdown →
      ∃ t, exec .warmReset s = .next t ∧ t.fault.mode = .starting ∧ t.fault.demand = true ∧
        t.port.plantEvents.faultRecorded = true ∧ t = { kept with fault := t.fault, port := t.port }) ∧
    (∃ t, exec .backupSupplyLoss s = .next t ∧ t.log.retained.marker = false ∧ t.log.retained.slots = .same none ∧
      t = { s with log := { s.log with retained := t.log.retained }, freeCount := t.freeCount }) ∧
    (s.powered = false →
      exec .warmReset s = .next s ∧ ∀ i x, requestPort i = some x → exec i s = .next s)

/-! ### What every step keeps -/

/-- R76: at every moment the sum of the claims is at most the reserve, and the reserve at most the capacity. -/
def Obligations.EveryStepKeepsClaimsWithinReserve : Prop :=
  ∀ s t : State, claimsLawful s = true → step s = .next t → claimsLawful t = true

/-- R195, R124: each attention line follows its event set, the plant port's held while the window is open. -/
def Obligations.EveryStepKeepsAttentionLines : Prop :=
  ∀ s t : State, linesLawful s = true → step s = .next t → linesLawful t = true

/-- R117: a session's mass always equals the floor of its pulse count times 1000 by its frozen factor. -/
def Obligations.EveryStepKeepsMassOfPulses : Prop :=
  ∀ s t : State, massesLawful s = true → step s = .next t → massesLawful t = true

/-- R171, R172: no kind's severity is ever below its least. -/
def Obligations.EveryStepKeepsSeverities : Prop :=
  ∀ s t : State, severitiesLawful s = true → step s = .next t → severitiesLawful t = true

/-- R151, R157: the record array keeps its canonical form, with every commit in one of its slots. -/
def Obligations.EveryStepKeepsArrayForm : Prop :=
  ∀ s t : State, arrayLawful s = true → step s = .next t → arrayLawful t = true

/-- R132, R137, R149: at most sixteen entries, one for a dispenser, with different numbers of 1 to 65535 in ascending order, each with
an expiry timer exactly while it is PENDING. -/
def Obligations.EveryStepKeepsAuthorizations : Prop :=
  ∀ s t : State, authLawful s = true → step s = .next t → authLawful t = true

/-- R42, R53, R82, R99, R48: each permit is asserted exactly while its session is FLOWING, or SWITCHING or in BANK_WAIT with flow begun,
and never in SHUTDOWN; no session is before CLOSING on a LOCKED dispenser; the waiting lists hold sessions in the waiting states, and a
record on its way belongs to a session in COMMIT_WAIT. -/
def Obligations.EveryStepKeepsSessions : Prop :=
  ∀ s t : State, sessionsLawful s = true → step s = .next t → sessionsLawful t = true

/-- R92, R108: lane holders, current banks and the refill record agree, and a route valve is open only for the holder of its bank's
lane once the switch has completed. -/
def Obligations.EveryStepKeepsLanes : Prop :=
  ∀ s t : State, sessionsLawful s = true → lanesLawful s = true → step s = .next t → lanesLawful t = true

/-- R106: the refill queue stays in order of tier, request time and number, holds no bank that has a lane holder or is not IN_SERVICE,
and exactly its banks have a refill request time; the deferred refill list holds each bank once, while a dispenser holds its lane. -/
def Obligations.EveryStepKeepsRefillRequests : Prop :=
  ∀ s t : State, sessionsLawful s = true → lanesLawful s = true → requestsLawful s = true → step s = .next t →
    requestsLawful t = true

/-- R100: no waiter is left on the list while a bank that is eligible for it is free. -/
def Obligations.EveryStepServesWaiters : Prop :=
  ∀ s t : State, sessionsLawful s = true → lanesLawful s = true → waitersServed s = true → step s = .next t →
    waitersServed t = true

/-- R28, R30: a session leaves IDLE only at a NOZZLE_ON of its own dispenser, taken in RUN. -/
def Obligations.SessionStartsOnlyAtNozzleOn : Prop :=
  ∀ (i : Instr) (s t : State) (d : Disp), sessionsLawful s = true → exec i s = .next t →
    (s.sess d).phase = .idle → (t.sess d).phase ≠ .idle →
      (∃ a, i = .nozzleOn (.disp d) (some a)) ∧ s.fault.mode = .run ∧ s.powered = true

/-! ### Frames -/

/-- R192, R193: the frame of a well-formed request, taken whole on its port, is read as that request, in the payload layouts
of assumptions 3, 17 and 29. -/
def Obligations.FrameOfRequestReadsBack : Prop :=
  ∀ (i : Instr) (f : Framed), i.wf = true → i.framed = some f → decodeFrame f.port f.bytes false = i
end

