-- ==== Sys2Proof/Laws/State.lean ====
section
/-! SUPPORT. One lemma per field per update of State, and the reads and updates of the tables indexed by the station's parts. -/

namespace Sys2Proof

/-! ### Tables -/

namespace PerDisp
variable {α β : Type}

@[simp] theorem get_set_same (v : PerDisp α) (d : Disp) (x : α) : (v.set d x).get d = x := by cases d <;> rfl

theorem get_set_other (v : PerDisp α) {d e : Disp} (x : α) (h : e ≠ d) : (v.set d x).get e = v.get e := by
  cases d <;> cases e <;> first | rfl | exact absurd rfl h

theorem get_set (v : PerDisp α) (d e : Disp) (x : α) : (v.set d x).get e = if e = d then x else v.get e := by
  split
  · next h => rw [h, get_set_same]
  · next h => exact get_set_other v x h

@[simp] theorem get_same (x : α) (d : Disp) : (PerDisp.same x).get d = x := by cases d <;> rfl

@[simp] theorem get_map (f : α → β) (v : PerDisp α) (d : Disp) : (v.map f).get d = f (v.get d) := by cases d <;> rfl

@[simp] theorem set_get (v : PerDisp α) (d : Disp) : v.set d (v.get d) = v := by cases d <;> rfl

@[simp] theorem set_set (v : PerDisp α) (d : Disp) (x y : α) : (v.set d x).set d y = v.set d y := by cases d <;> rfl

theorem ext_get {v w : PerDisp α} (h : ∀ d, v.get d = w.get d) : v = w := by
  cases v; cases w
  simpa [get] using And.intro (h .d0) (And.intro (h .d1) (And.intro (h .d2) (h .d3)))

end PerDisp

namespace PerBank
variable {α β : Type}

@[simp] theorem get_set_same (v : PerBank α) (b : Bank) (x : α) : (v.set b x).get b = x := by cases b <;> rfl

theorem get_set_other (v : PerBank α) {b c : Bank} (x : α) (h : c ≠ b) : (v.set b x).get c = v.get c := by
  cases b <;> cases c <;> first | rfl | exact absurd rfl h

theorem get_set (v : PerBank α) (b c : Bank) (x : α) : (v.set b x).get c = if c = b then x else v.get c := by
  split
  · next h => rw [h, get_set_same]
  · next h => exact get_set_other v x h

@[simp] theorem get_same (x : α) (b : Bank) : (PerBank.same x).get b = x := by cases b <;> rfl

@[simp] theorem get_map (f : α → β) (v : PerBank α) (b : Bank) : (v.map f).get b = f (v.get b) := by cases b <;> rfl

@[simp] theorem set_get (v : PerBank α) (b : Bank) : v.set b (v.get b) = v := by cases b <;> rfl

@[simp] theorem set_set (v : PerBank α) (b : Bank) (x y : α) : (v.set b x).set b y = v.set b y := by cases b <;> rfl

end PerBank

namespace PerConsumer
variable {α : Type}

theorem get_set (v : PerConsumer α) (c e : Consumer) (x : α) : (v.set c x).get e = if e = c then x else v.get e := by
  cases c <;> cases e <;> simp [set, get, PerDisp.get_set]

@[simp] theorem get_same (x : α) (c : Consumer) : (PerConsumer.same x).get c = x := by cases c <;> simp [get, same]

end PerConsumer

namespace PerPort
variable {α : Type}

theorem get_set (v : PerPort α) (p q : Port) (x : α) : (v.set p x).get q = if q = p then x else v.get q := by
  cases p <;> cases q <;> simp [set, get, PerDisp.get_set]

@[simp] theorem get_set_same (v : PerPort α) (p : Port) (x : α) : (v.set p x).get p = x := by simp [get_set]

@[simp] theorem get_same (x : α) (p : Port) : (PerPort.same x).get p = x := by cases p <;> simp [get, same]

end PerPort

namespace Machine

namespace PerKind
variable {α : Type}

@[simp] theorem get_set_same (v : PerKind α) (k : FaultKind) (x : α) : (v.set k x).get k = x := by cases k <;> rfl

theorem get_set_other (v : PerKind α) {k l : FaultKind} (x : α) (h : l ≠ k) : (v.set k x).get l = v.get l := by
  cases k <;> cases l <;> first | rfl | exact absurd rfl h

@[simp] theorem get_same (x : α) (k : FaultKind) : (PerKind.same x).get k = x := by cases k <;> rfl

end PerKind

/-! ### State, field by field -/

namespace State
variable (s : State)

@[simp] theorem modInv_port (f : Inventory → Inventory) : (s.modInv f).port = s.port := rfl
@[simp] theorem modInv_inv (f : Inventory → Inventory) : (s.modInv f).inv = f s.inv := rfl
@[simp] theorem modInv_unit (f : Inventory → Inventory) : (s.modInv f).unit = s.unit := rfl
@[simp] theorem modInv_settleTime (f : Inventory → Inventory) : (s.modInv f).settleTime = s.settleTime := rfl
@[simp] theorem modInv_ramp (f : Inventory → Inventory) : (s.modInv f).ramp = s.ramp := rfl
@[simp] theorem modInv_cold (f : Inventory → Inventory) : (s.modInv f).cold = s.cold := rfl
@[simp] theorem modInv_lane (f : Inventory → Inventory) : (s.modInv f).lane = s.lane := rfl
@[simp] theorem modInv_meter (f : Inventory → Inventory) : (s.modInv f).meter = s.meter := rfl
@[simp] theorem modInv_auth (f : Inventory → Inventory) : (s.modInv f).auth = s.auth := rfl
@[simp] theorem modInv_log (f : Inventory → Inventory) : (s.modInv f).log = s.log := rfl
@[simp] theorem modInv_fault (f : Inventory → Inventory) : (s.modInv f).fault = s.fault := rfl
@[simp] theorem modInv_powered (f : Inventory → Inventory) : (s.modInv f).powered = s.powered := rfl
@[simp] theorem modInv_freeCount (f : Inventory → Inventory) : (s.modInv f).freeCount = s.freeCount := rfl
@[simp] theorem modInv_pending (f : Inventory → Inventory) : (s.modInv f).pending = s.pending := rfl

@[simp] theorem modCold_port (f : ColdReserve → ColdReserve) : (s.modCold f).port = s.port := rfl
@[simp] theorem modCold_inv (f : ColdReserve → ColdReserve) : (s.modCold f).inv = s.inv := rfl
@[simp] theorem modCold_unit (f : ColdReserve → ColdReserve) : (s.modCold f).unit = s.unit := rfl
@[simp] theorem modCold_settleTime (f : ColdReserve → ColdReserve) : (s.modCold f).settleTime = s.settleTime := rfl
@[simp] theorem modCold_ramp (f : ColdReserve → ColdReserve) : (s.modCold f).ramp = s.ramp := rfl
@[simp] theorem modCold_cold (f : ColdReserve → ColdReserve) : (s.modCold f).cold = f s.cold := rfl
@[simp] theorem modCold_lane (f : ColdReserve → ColdReserve) : (s.modCold f).lane = s.lane := rfl
@[simp] theorem modCold_meter (f : ColdReserve → ColdReserve) : (s.modCold f).meter = s.meter := rfl
@[simp] theorem modCold_auth (f : ColdReserve → ColdReserve) : (s.modCold f).auth = s.auth := rfl
@[simp] theorem modCold_log (f : ColdReserve → ColdReserve) : (s.modCold f).log = s.log := rfl
@[simp] theorem modCold_fault (f : ColdReserve → ColdReserve) : (s.modCold f).fault = s.fault := rfl
@[simp] theorem modCold_powered (f : ColdReserve → ColdReserve) : (s.modCold f).powered = s.powered := rfl
@[simp] theorem modCold_freeCount (f : ColdReserve → ColdReserve) : (s.modCold f).freeCount = s.freeCount := rfl
@[simp] theorem modCold_pending (f : ColdReserve → ColdReserve) : (s.modCold f).pending = s.pending := rfl

@[simp] theorem modLane_port (f : LaneArbiter → LaneArbiter) : (s.modLane f).port = s.port := rfl
@[simp] theorem modLane_inv (f : LaneArbiter → LaneArbiter) : (s.modLane f).inv = s.inv := rfl
@[simp] theorem modLane_unit (f : LaneArbiter → LaneArbiter) : (s.modLane f).unit = s.unit := rfl
@[simp] theorem modLane_settleTime (f : LaneArbiter → LaneArbiter) : (s.modLane f).settleTime = s.settleTime := rfl
@[simp] theorem modLane_ramp (f : LaneArbiter → LaneArbiter) : (s.modLane f).ramp = s.ramp := rfl
@[simp] theorem modLane_cold (f : LaneArbiter → LaneArbiter) : (s.modLane f).cold = s.cold := rfl
@[simp] theorem modLane_lane (f : LaneArbiter → LaneArbiter) : (s.modLane f).lane = f s.lane := rfl
@[simp] theorem modLane_meter (f : LaneArbiter → LaneArbiter) : (s.modLane f).meter = s.meter := rfl
@[simp] theorem modLane_auth (f : LaneArbiter → LaneArbiter) : (s.modLane f).auth = s.auth := rfl
@[simp] theorem modLane_log (f : LaneArbiter → LaneArbiter) : (s.modLane f).log = s.log := rfl
@[simp] theorem modLane_fault (f : LaneArbiter → LaneArbiter) : (s.modLane f).fault = s.fault := rfl
@[simp] theorem modLane_powered (f : LaneArbiter → LaneArbiter) : (s.modLane f).powered = s.powered := rfl
@[simp] theorem modLane_freeCount (f : LaneArbiter → LaneArbiter) : (s.modLane f).freeCount = s.freeCount := rfl
@[simp] theorem modLane_pending (f : LaneArbiter → LaneArbiter) : (s.modLane f).pending = s.pending := rfl

@[simp] theorem modMeter_port (f : MeterUnit → MeterUnit) : (s.modMeter f).port = s.port := rfl
@[simp] theorem modMeter_inv (f : MeterUnit → MeterUnit) : (s.modMeter f).inv = s.inv := rfl
@[simp] theorem modMeter_unit (f : MeterUnit → MeterUnit) : (s.modMeter f).unit = s.unit := rfl
@[simp] theorem modMeter_settleTime (f : MeterUnit → MeterUnit) : (s.modMeter f).settleTime = s.settleTime := rfl
@[simp] theorem modMeter_ramp (f : MeterUnit → MeterUnit) : (s.modMeter f).ramp = s.ramp := rfl
@[simp] theorem modMeter_cold (f : MeterUnit → MeterUnit) : (s.modMeter f).cold = s.cold := rfl
@[simp] theorem modMeter_lane (f : MeterUnit → MeterUnit) : (s.modMeter f).lane = s.lane := rfl
@[simp] theorem modMeter_meter (f : MeterUnit → MeterUnit) : (s.modMeter f).meter = f s.meter := rfl
@[simp] theorem modMeter_auth (f : MeterUnit → MeterUnit) : (s.modMeter f).auth = s.auth := rfl
@[simp] theorem modMeter_log (f : MeterUnit → MeterUnit) : (s.modMeter f).log = s.log := rfl
@[simp] theorem modMeter_fault (f : MeterUnit → MeterUnit) : (s.modMeter f).fault = s.fault := rfl
@[simp] theorem modMeter_powered (f : MeterUnit → MeterUnit) : (s.modMeter f).powered = s.powered := rfl
@[simp] theorem modMeter_freeCount (f : MeterUnit → MeterUnit) : (s.modMeter f).freeCount = s.freeCount := rfl
@[simp] theorem modMeter_pending (f : MeterUnit → MeterUnit) : (s.modMeter f).pending = s.pending := rfl

@[simp] theorem modAuth_port (f : AuthTable → AuthTable) : (s.modAuth f).port = s.port := rfl
@[simp] theorem modAuth_inv (f : AuthTable → AuthTable) : (s.modAuth f).inv = s.inv := rfl
@[simp] theorem modAuth_unit (f : AuthTable → AuthTable) : (s.modAuth f).unit = s.unit := rfl
@[simp] theorem modAuth_settleTime (f : AuthTable → AuthTable) : (s.modAuth f).settleTime = s.settleTime := rfl
@[simp] theorem modAuth_ramp (f : AuthTable → AuthTable) : (s.modAuth f).ramp = s.ramp := rfl
@[simp] theorem modAuth_cold (f : AuthTable → AuthTable) : (s.modAuth f).cold = s.cold := rfl
@[simp] theorem modAuth_lane (f : AuthTable → AuthTable) : (s.modAuth f).lane = s.lane := rfl
@[simp] theorem modAuth_meter (f : AuthTable → AuthTable) : (s.modAuth f).meter = s.meter := rfl
@[simp] theorem modAuth_auth (f : AuthTable → AuthTable) : (s.modAuth f).auth = f s.auth := rfl
@[simp] theorem modAuth_log (f : AuthTable → AuthTable) : (s.modAuth f).log = s.log := rfl
@[simp] theorem modAuth_fault (f : AuthTable → AuthTable) : (s.modAuth f).fault = s.fault := rfl
@[simp] theorem modAuth_powered (f : AuthTable → AuthTable) : (s.modAuth f).powered = s.powered := rfl
@[simp] theorem modAuth_freeCount (f : AuthTable → AuthTable) : (s.modAuth f).freeCount = s.freeCount := rfl
@[simp] theorem modAuth_pending (f : AuthTable → AuthTable) : (s.modAuth f).pending = s.pending := rfl

@[simp] theorem modLog_port (f : LogController → LogController) : (s.modLog f).port = s.port := rfl
@[simp] theorem modLog_inv (f : LogController → LogController) : (s.modLog f).inv = s.inv := rfl
@[simp] theorem modLog_unit (f : LogController → LogController) : (s.modLog f).unit = s.unit := rfl
@[simp] theorem modLog_settleTime (f : LogController → LogController) : (s.modLog f).settleTime = s.settleTime := rfl
@[simp] theorem modLog_ramp (f : LogController → LogController) : (s.modLog f).ramp = s.ramp := rfl
@[simp] theorem modLog_cold (f : LogController → LogController) : (s.modLog f).cold = s.cold := rfl
@[simp] theorem modLog_lane (f : LogController → LogController) : (s.modLog f).lane = s.lane := rfl
@[simp] theorem modLog_meter (f : LogController → LogController) : (s.modLog f).meter = s.meter := rfl
@[simp] theorem modLog_auth (f : LogController → LogController) : (s.modLog f).auth = s.auth := rfl
@[simp] theorem modLog_log (f : LogController → LogController) : (s.modLog f).log = f s.log := rfl
@[simp] theorem modLog_fault (f : LogController → LogController) : (s.modLog f).fault = s.fault := rfl
@[simp] theorem modLog_powered (f : LogController → LogController) : (s.modLog f).powered = s.powered := rfl
@[simp] theorem modLog_freeCount (f : LogController → LogController) : (s.modLog f).freeCount = s.freeCount := rfl
@[simp] theorem modLog_pending (f : LogController → LogController) : (s.modLog f).pending = s.pending := rfl

@[simp] theorem modFault_port (f : FaultMonitor → FaultMonitor) : (s.modFault f).port = s.port := rfl
@[simp] theorem modFault_inv (f : FaultMonitor → FaultMonitor) : (s.modFault f).inv = s.inv := rfl
@[simp] theorem modFault_unit (f : FaultMonitor → FaultMonitor) : (s.modFault f).unit = s.unit := rfl
@[simp] theorem modFault_settleTime (f : FaultMonitor → FaultMonitor) : (s.modFault f).settleTime = s.settleTime := rfl
@[simp] theorem modFault_ramp (f : FaultMonitor → FaultMonitor) : (s.modFault f).ramp = s.ramp := rfl
@[simp] theorem modFault_cold (f : FaultMonitor → FaultMonitor) : (s.modFault f).cold = s.cold := rfl
@[simp] theorem modFault_lane (f : FaultMonitor → FaultMonitor) : (s.modFault f).lane = s.lane := rfl
@[simp] theorem modFault_meter (f : FaultMonitor → FaultMonitor) : (s.modFault f).meter = s.meter := rfl
@[simp] theorem modFault_auth (f : FaultMonitor → FaultMonitor) : (s.modFault f).auth = s.auth := rfl
@[simp] theorem modFault_log (f : FaultMonitor → FaultMonitor) : (s.modFault f).log = s.log := rfl
@[simp] theorem modFault_fault (f : FaultMonitor → FaultMonitor) : (s.modFault f).fault = f s.fault := rfl
@[simp] theorem modFault_powered (f : FaultMonitor → FaultMonitor) : (s.modFault f).powered = s.powered := rfl
@[simp] theorem modFault_freeCount (f : FaultMonitor → FaultMonitor) : (s.modFault f).freeCount = s.freeCount := rfl
@[simp] theorem modFault_pending (f : FaultMonitor → FaultMonitor) : (s.modFault f).pending = s.pending := rfl

@[simp] theorem modPort_port (f : PortUnit → PortUnit) : (s.modPort f).port = f s.port := rfl
@[simp] theorem modPort_inv (f : PortUnit → PortUnit) : (s.modPort f).inv = s.inv := rfl
@[simp] theorem modPort_unit (f : PortUnit → PortUnit) : (s.modPort f).unit = s.unit := rfl
@[simp] theorem modPort_settleTime (f : PortUnit → PortUnit) : (s.modPort f).settleTime = s.settleTime := rfl
@[simp] theorem modPort_ramp (f : PortUnit → PortUnit) : (s.modPort f).ramp = s.ramp := rfl
@[simp] theorem modPort_cold (f : PortUnit → PortUnit) : (s.modPort f).cold = s.cold := rfl
@[simp] theorem modPort_lane (f : PortUnit → PortUnit) : (s.modPort f).lane = s.lane := rfl
@[simp] theorem modPort_meter (f : PortUnit → PortUnit) : (s.modPort f).meter = s.meter := rfl
@[simp] theorem modPort_auth (f : PortUnit → PortUnit) : (s.modPort f).auth = s.auth := rfl
@[simp] theorem modPort_log (f : PortUnit → PortUnit) : (s.modPort f).log = s.log := rfl
@[simp] theorem modPort_fault (f : PortUnit → PortUnit) : (s.modPort f).fault = s.fault := rfl
@[simp] theorem modPort_powered (f : PortUnit → PortUnit) : (s.modPort f).powered = s.powered := rfl
@[simp] theorem modPort_freeCount (f : PortUnit → PortUnit) : (s.modPort f).freeCount = s.freeCount := rfl
@[simp] theorem modPort_pending (f : PortUnit → PortUnit) : (s.modPort f).pending = s.pending := rfl

@[simp] theorem modUnit_port (d : Disp) (f : SessionUnit → SessionUnit) : (s.modUnit d f).port = s.port := rfl
@[simp] theorem modUnit_inv (d : Disp) (f : SessionUnit → SessionUnit) : (s.modUnit d f).inv = s.inv := rfl
@[simp] theorem modUnit_unit (d : Disp) (f : SessionUnit → SessionUnit) : (s.modUnit d f).unit = s.unit.set d (f (s.unit.get d)) := rfl
@[simp] theorem modUnit_settleTime (d : Disp) (f : SessionUnit → SessionUnit) : (s.modUnit d f).settleTime = s.settleTime := rfl
@[simp] theorem modUnit_ramp (d : Disp) (f : SessionUnit → SessionUnit) : (s.modUnit d f).ramp = s.ramp := rfl
@[simp] theorem modUnit_cold (d : Disp) (f : SessionUnit → SessionUnit) : (s.modUnit d f).cold = s.cold := rfl
@[simp] theorem modUnit_lane (d : Disp) (f : SessionUnit → SessionUnit) : (s.modUnit d f).lane = s.lane := rfl
@[simp] theorem modUnit_meter (d : Disp) (f : SessionUnit → SessionUnit) : (s.modUnit d f).meter = s.meter := rfl
@[simp] theorem modUnit_auth (d : Disp) (f : SessionUnit → SessionUnit) : (s.modUnit d f).auth = s.auth := rfl
@[simp] theorem modUnit_log (d : Disp) (f : SessionUnit → SessionUnit) : (s.modUnit d f).log = s.log := rfl
@[simp] theorem modUnit_fault (d : Disp) (f : SessionUnit → SessionUnit) : (s.modUnit d f).fault = s.fault := rfl
@[simp] theorem modUnit_powered (d : Disp) (f : SessionUnit → SessionUnit) : (s.modUnit d f).powered = s.powered := rfl
@[simp] theorem modUnit_freeCount (d : Disp) (f : SessionUnit → SessionUnit) : (s.modUnit d f).freeCount = s.freeCount := rfl
@[simp] theorem modUnit_pending (d : Disp) (f : SessionUnit → SessionUnit) : (s.modUnit d f).pending = s.pending := rfl

@[simp] theorem modSess_port (d : Disp) (f : Session → Session) : (s.modSess d f).port = s.port := rfl
@[simp] theorem modSess_inv (d : Disp) (f : Session → Session) : (s.modSess d f).inv = s.inv := rfl
@[simp] theorem modSess_settleTime (d : Disp) (f : Session → Session) : (s.modSess d f).settleTime = s.settleTime := rfl
@[simp] theorem modSess_ramp (d : Disp) (f : Session → Session) : (s.modSess d f).ramp = s.ramp := rfl
@[simp] theorem modSess_cold (d : Disp) (f : Session → Session) : (s.modSess d f).cold = s.cold := rfl
@[simp] theorem modSess_lane (d : Disp) (f : Session → Session) : (s.modSess d f).lane = s.lane := rfl
@[simp] theorem modSess_meter (d : Disp) (f : Session → Session) : (s.modSess d f).meter = s.meter := rfl
@[simp] theorem modSess_auth (d : Disp) (f : Session → Session) : (s.modSess d f).auth = s.auth := rfl
@[simp] theorem modSess_log (d : Disp) (f : Session → Session) : (s.modSess d f).log = s.log := rfl
@[simp] theorem modSess_fault (d : Disp) (f : Session → Session) : (s.modSess d f).fault = s.fault := rfl
@[simp] theorem modSess_powered (d : Disp) (f : Session → Session) : (s.modSess d f).powered = s.powered := rfl
@[simp] theorem modSess_freeCount (d : Disp) (f : Session → Session) : (s.modSess d f).freeCount = s.freeCount := rfl
@[simp] theorem modSess_pending (d : Disp) (f : Session → Session) : (s.modSess d f).pending = s.pending := rfl
@[simp] theorem modSess_unit (d : Disp) (f : Session → Session) :
    (s.modSess d f).unit = s.unit.set d { s.unit.get d with sess := f (s.sess d) } := rfl

@[simp] theorem modBank_port (b : Bank) (f : BankEntry → BankEntry) : (s.modBank b f).port = s.port := rfl
@[simp] theorem modBank_unit (b : Bank) (f : BankEntry → BankEntry) : (s.modBank b f).unit = s.unit := rfl
@[simp] theorem modBank_settleTime (b : Bank) (f : BankEntry → BankEntry) : (s.modBank b f).settleTime = s.settleTime := rfl
@[simp] theorem modBank_ramp (b : Bank) (f : BankEntry → BankEntry) : (s.modBank b f).ramp = s.ramp := rfl
@[simp] theorem modBank_cold (b : Bank) (f : BankEntry → BankEntry) : (s.modBank b f).cold = s.cold := rfl
@[simp] theorem modBank_lane (b : Bank) (f : BankEntry → BankEntry) : (s.modBank b f).lane = s.lane := rfl
@[simp] theorem modBank_meter (b : Bank) (f : BankEntry → BankEntry) : (s.modBank b f).meter = s.meter := rfl
@[simp] theorem modBank_auth (b : Bank) (f : BankEntry → BankEntry) : (s.modBank b f).auth = s.auth := rfl
@[simp] theorem modBank_log (b : Bank) (f : BankEntry → BankEntry) : (s.modBank b f).log = s.log := rfl
@[simp] theorem modBank_fault (b : Bank) (f : BankEntry → BankEntry) : (s.modBank b f).fault = s.fault := rfl
@[simp] theorem modBank_powered (b : Bank) (f : BankEntry → BankEntry) : (s.modBank b f).powered = s.powered := rfl
@[simp] theorem modBank_freeCount (b : Bank) (f : BankEntry → BankEntry) : (s.modBank b f).freeCount = s.freeCount := rfl
@[simp] theorem modBank_pending (b : Bank) (f : BankEntry → BankEntry) : (s.modBank b f).pending = s.pending := rfl
@[simp] theorem modBank_inv (b : Bank) (f : BankEntry → BankEntry) :
    (s.modBank b f).inv = { s.inv with banks := s.inv.banks.set b (f (s.bank b)) } := rfl

@[simp] theorem modInv_sess (f : Inventory → Inventory) (d : Disp) : (s.modInv f).sess d = s.sess d := rfl
@[simp] theorem modCold_sess (f : ColdReserve → ColdReserve) (d : Disp) : (s.modCold f).sess d = s.sess d := rfl
@[simp] theorem modCold_bank (f : ColdReserve → ColdReserve) (b : Bank) : (s.modCold f).bank b = s.bank b := rfl
@[simp] theorem modLane_sess (f : LaneArbiter → LaneArbiter) (d : Disp) : (s.modLane f).sess d = s.sess d := rfl
@[simp] theorem modLane_bank (f : LaneArbiter → LaneArbiter) (b : Bank) : (s.modLane f).bank b = s.bank b := rfl
@[simp] theorem modMeter_sess (f : MeterUnit → MeterUnit) (d : Disp) : (s.modMeter f).sess d = s.sess d := rfl
@[simp] theorem modMeter_bank (f : MeterUnit → MeterUnit) (b : Bank) : (s.modMeter f).bank b = s.bank b := rfl
@[simp] theorem modAuth_sess (f : AuthTable → AuthTable) (d : Disp) : (s.modAuth f).sess d = s.sess d := rfl
@[simp] theorem modAuth_bank (f : AuthTable → AuthTable) (b : Bank) : (s.modAuth f).bank b = s.bank b := rfl
@[simp] theorem modLog_sess (f : LogController → LogController) (d : Disp) : (s.modLog f).sess d = s.sess d := rfl
@[simp] theorem modLog_bank (f : LogController → LogController) (b : Bank) : (s.modLog f).bank b = s.bank b := rfl
@[simp] theorem modFault_sess (f : FaultMonitor → FaultMonitor) (d : Disp) : (s.modFault f).sess d = s.sess d := rfl
@[simp] theorem modFault_bank (f : FaultMonitor → FaultMonitor) (b : Bank) : (s.modFault f).bank b = s.bank b := rfl
@[simp] theorem modPort_sess (f : PortUnit → PortUnit) (d : Disp) : (s.modPort f).sess d = s.sess d := rfl
@[simp] theorem modPort_bank (f : PortUnit → PortUnit) (b : Bank) : (s.modPort f).bank b = s.bank b := rfl
@[simp] theorem modUnit_bank (d : Disp) (f : SessionUnit → SessionUnit) (b : Bank) : (s.modUnit d f).bank b = s.bank b := rfl
@[simp] theorem modSess_bank (d : Disp) (f : Session → Session) (b : Bank) : (s.modSess d f).bank b = s.bank b := rfl
@[simp] theorem modBank_sess (b : Bank) (f : BankEntry → BankEntry) (d : Disp) : (s.modBank b f).sess d = s.sess d := rfl

@[simp] theorem modUnit_sess_same (d : Disp) (f : SessionUnit → SessionUnit) :
    (s.modUnit d f).sess d = (f (s.unit.get d)).sess := by simp [sess]

theorem modUnit_sess (d e : Disp) (f : SessionUnit → SessionUnit) :
    (s.modUnit d f).sess e = if e = d then (f (s.unit.get d)).sess else s.sess e := by
  simp only [sess, modUnit_unit, PerDisp.get_set]; split <;> rfl

@[simp] theorem modSess_sess_same (d : Disp) (f : Session → Session) : (s.modSess d f).sess d = f (s.sess d) := by
  simp [modSess, sess]

theorem modSess_sess (d e : Disp) (f : Session → Session) :
    (s.modSess d f).sess e = if e = d then f (s.sess d) else s.sess e := by
  split
  · next h => rw [h, modSess_sess_same]
  · next h => rw [modSess, modUnit_sess, if_neg h]

@[simp] theorem modBank_bank_same (b : Bank) (f : BankEntry → BankEntry) : (s.modBank b f).bank b = f (s.bank b) := by
  simp [bank]

theorem modBank_bank (b c : Bank) (f : BankEntry → BankEntry) :
    (s.modBank b f).bank c = if c = b then f (s.bank b) else s.bank c := by
  simp only [bank, modBank_inv, PerBank.get_set]

end State

/-! ### A route valve -/

@[simp] theorem setValve_port (b : Bank) (c : Consumer) (x : Bool) (s : State) : (setValve b c x s).port = s.port := rfl
@[simp] theorem setValve_inv (b : Bank) (c : Consumer) (x : Bool) (s : State) : (setValve b c x s).inv = s.inv := rfl
@[simp] theorem setValve_unit (b : Bank) (c : Consumer) (x : Bool) (s : State) : (setValve b c x s).unit = s.unit := rfl
@[simp] theorem setValve_settleTime (b : Bank) (c : Consumer) (x : Bool) (s : State) : (setValve b c x s).settleTime = s.settleTime := rfl
@[simp] theorem setValve_ramp (b : Bank) (c : Consumer) (x : Bool) (s : State) : (setValve b c x s).ramp = s.ramp := rfl
@[simp] theorem setValve_cold (b : Bank) (c : Consumer) (x : Bool) (s : State) : (setValve b c x s).cold = s.cold := rfl
@[simp] theorem setValve_meter (b : Bank) (c : Consumer) (x : Bool) (s : State) : (setValve b c x s).meter = s.meter := rfl
@[simp] theorem setValve_auth (b : Bank) (c : Consumer) (x : Bool) (s : State) : (setValve b c x s).auth = s.auth := rfl
@[simp] theorem setValve_log (b : Bank) (c : Consumer) (x : Bool) (s : State) : (setValve b c x s).log = s.log := rfl
@[simp] theorem setValve_fault (b : Bank) (c : Consumer) (x : Bool) (s : State) : (setValve b c x s).fault = s.fault := rfl
@[simp] theorem setValve_powered (b : Bank) (c : Consumer) (x : Bool) (s : State) : (setValve b c x s).powered = s.powered := rfl
@[simp] theorem setValve_freeCount (b : Bank) (c : Consumer) (x : Bool) (s : State) : (setValve b c x s).freeCount = s.freeCount := rfl
@[simp] theorem setValve_pending (b : Bank) (c : Consumer) (x : Bool) (s : State) : (setValve b c x s).pending = s.pending := rfl

theorem setValve_get (b b' : Bank) (c c' : Consumer) (x : Bool) (s : State) :
    ((setValve b c x s).lane.valves.get b').get c' = if b' = b ∧ c' = c then x else (s.lane.valves.get b').get c' := by
  by_cases hb : b' = b
  · subst hb; simp [setValve, PerConsumer.get_set]
  · simp [setValve, PerBank.get_set, hb]

end Machine

end Sys2Proof
end

