-- ==== Sys2Proof/Laws/Frames.lean ====
section
/-! SUPPORT. What each shared operation leaves as it was, block by block. kept is what none of them touches. -/

namespace Sys2Proof.Machine

/-- The blocks that no operation of a session, a lane, an entry, a record or a fault touches. -/
def State.kept (s : State) : MeterUnit × RampEngine × Nat × Bool × Nat × List Instr :=
  (s.meter, s.ramp, s.settleTime, s.powered, s.freeCount, s.pending)

/-- What kept holds, field by field. -/
theorem State.kept_fields {s t : State} (h : t.kept = s.kept) :
    t.meter = s.meter ∧ t.ramp = s.ramp ∧ t.settleTime = s.settleTime ∧ t.powered = s.powered ∧
      t.freeCount = s.freeCount ∧ t.pending = s.pending := by
  simpa [State.kept] using h

section
variable (s : State)

@[simp] theorem State.modInv_kept (f : Inventory → Inventory) : (s.modInv f).kept = s.kept := rfl
@[simp] theorem State.modCold_kept (f : ColdReserve → ColdReserve) : (s.modCold f).kept = s.kept := rfl
@[simp] theorem State.modLane_kept (f : LaneArbiter → LaneArbiter) : (s.modLane f).kept = s.kept := rfl
@[simp] theorem State.modAuth_kept (f : AuthTable → AuthTable) : (s.modAuth f).kept = s.kept := rfl
@[simp] theorem State.modLog_kept (f : LogController → LogController) : (s.modLog f).kept = s.kept := rfl
@[simp] theorem State.modFault_kept (f : FaultMonitor → FaultMonitor) : (s.modFault f).kept = s.kept := rfl
@[simp] theorem State.modPort_kept (f : PortUnit → PortUnit) : (s.modPort f).kept = s.kept := rfl
@[simp] theorem State.modUnit_kept (d : Disp) (f : SessionUnit → SessionUnit) : (s.modUnit d f).kept = s.kept := rfl
@[simp] theorem State.modSess_kept (d : Disp) (f : Session → Session) : (s.modSess d f).kept = s.kept := rfl
@[simp] theorem State.modBank_kept (b : Bank) (f : BankEntry → BankEntry) : (s.modBank b f).kept = s.kept := rfl
@[simp] theorem setValve_kept (b : Bank) (c : Consumer) (x : Bool) : (setValve b c x s).kept = s.kept := rfl

/-! ### Event sets and state changes -/

@[simp] theorem refreshLine_inv (p : Port) : (refreshLine p s).inv = s.inv := by simp [refreshLine]
@[simp] theorem refreshLine_unit (p : Port) : (refreshLine p s).unit = s.unit := by simp [refreshLine]
@[simp] theorem refreshLine_cold (p : Port) : (refreshLine p s).cold = s.cold := by simp [refreshLine]
@[simp] theorem refreshLine_lane (p : Port) : (refreshLine p s).lane = s.lane := by simp [refreshLine]
@[simp] theorem refreshLine_auth (p : Port) : (refreshLine p s).auth = s.auth := by simp [refreshLine]
@[simp] theorem refreshLine_log (p : Port) : (refreshLine p s).log = s.log := by simp [refreshLine]
@[simp] theorem refreshLine_fault (p : Port) : (refreshLine p s).fault = s.fault := by simp [refreshLine]
@[simp] theorem refreshLine_kept (p : Port) : (refreshLine p s).kept = s.kept := by simp [refreshLine]

@[simp] theorem addDispEvent_inv (d : Disp) (e : DispEvent) : (addDispEvent d e s).inv = s.inv := by simp [addDispEvent]
@[simp] theorem addDispEvent_unit (d : Disp) (e : DispEvent) : (addDispEvent d e s).unit = s.unit := by simp [addDispEvent]
@[simp] theorem addDispEvent_cold (d : Disp) (e : DispEvent) : (addDispEvent d e s).cold = s.cold := by simp [addDispEvent]
@[simp] theorem addDispEvent_lane (d : Disp) (e : DispEvent) : (addDispEvent d e s).lane = s.lane := by simp [addDispEvent]
@[simp] theorem addDispEvent_auth (d : Disp) (e : DispEvent) : (addDispEvent d e s).auth = s.auth := by simp [addDispEvent]
@[simp] theorem addDispEvent_log (d : Disp) (e : DispEvent) : (addDispEvent d e s).log = s.log := by simp [addDispEvent]
@[simp] theorem addDispEvent_fault (d : Disp) (e : DispEvent) : (addDispEvent d e s).fault = s.fault := by simp [addDispEvent]
@[simp] theorem addDispEvent_kept (d : Disp) (e : DispEvent) : (addDispEvent d e s).kept = s.kept := by simp [addDispEvent]

@[simp] theorem addPlantEvent_inv (e : PlantEvent) : (addPlantEvent e s).inv = s.inv := by simp [addPlantEvent]
@[simp] theorem addPlantEvent_unit (e : PlantEvent) : (addPlantEvent e s).unit = s.unit := by simp [addPlantEvent]
@[simp] theorem addPlantEvent_cold (e : PlantEvent) : (addPlantEvent e s).cold = s.cold := by simp [addPlantEvent]
@[simp] theorem addPlantEvent_lane (e : PlantEvent) : (addPlantEvent e s).lane = s.lane := by simp [addPlantEvent]
@[simp] theorem addPlantEvent_auth (e : PlantEvent) : (addPlantEvent e s).auth = s.auth := by simp [addPlantEvent]
@[simp] theorem addPlantEvent_log (e : PlantEvent) : (addPlantEvent e s).log = s.log := by simp [addPlantEvent]
@[simp] theorem addPlantEvent_fault (e : PlantEvent) : (addPlantEvent e s).fault = s.fault := by simp [addPlantEvent]
@[simp] theorem addPlantEvent_kept (e : PlantEvent) : (addPlantEvent e s).kept = s.kept := by simp [addPlantEvent]

@[simp] theorem addSalesEvent_inv (e : SalesEvent) : (addSalesEvent e s).inv = s.inv := by simp [addSalesEvent]
@[simp] theorem addSalesEvent_unit (e : SalesEvent) : (addSalesEvent e s).unit = s.unit := by simp [addSalesEvent]
@[simp] theorem addSalesEvent_cold (e : SalesEvent) : (addSalesEvent e s).cold = s.cold := by simp [addSalesEvent]
@[simp] theorem addSalesEvent_lane (e : SalesEvent) : (addSalesEvent e s).lane = s.lane := by simp [addSalesEvent]
@[simp] theorem addSalesEvent_auth (e : SalesEvent) : (addSalesEvent e s).auth = s.auth := by simp [addSalesEvent]
@[simp] theorem addSalesEvent_log (e : SalesEvent) : (addSalesEvent e s).log = s.log := by simp [addSalesEvent]
@[simp] theorem addSalesEvent_fault (e : SalesEvent) : (addSalesEvent e s).fault = s.fault := by simp [addSalesEvent]
@[simp] theorem addSalesEvent_kept (e : SalesEvent) : (addSalesEvent e s).kept = s.kept := by simp [addSalesEvent]

@[simp] theorem clearEvents_inv (p : Port) : (clearEvents p s).inv = s.inv := by simp [clearEvents]
@[simp] theorem clearEvents_unit (p : Port) : (clearEvents p s).unit = s.unit := by simp [clearEvents]
@[simp] theorem clearEvents_cold (p : Port) : (clearEvents p s).cold = s.cold := by simp [clearEvents]
@[simp] theorem clearEvents_lane (p : Port) : (clearEvents p s).lane = s.lane := by simp [clearEvents]
@[simp] theorem clearEvents_auth (p : Port) : (clearEvents p s).auth = s.auth := by simp [clearEvents]
@[simp] theorem clearEvents_log (p : Port) : (clearEvents p s).log = s.log := by simp [clearEvents]
@[simp] theorem clearEvents_fault (p : Port) : (clearEvents p s).fault = s.fault := by simp [clearEvents]
@[simp] theorem clearEvents_kept (p : Port) : (clearEvents p s).kept = s.kept := by simp [clearEvents]

@[simp] theorem setPhase_inv (d : Disp) (ph : Phase) : (setPhase d ph s).inv = s.inv := by
  unfold setPhase; (repeat' split) <;> simp
@[simp] theorem setPhase_cold (d : Disp) (ph : Phase) : (setPhase d ph s).cold = s.cold := by
  unfold setPhase; (repeat' split) <;> simp
@[simp] theorem setPhase_lane (d : Disp) (ph : Phase) : (setPhase d ph s).lane = s.lane := by
  unfold setPhase; (repeat' split) <;> simp
@[simp] theorem setPhase_auth (d : Disp) (ph : Phase) : (setPhase d ph s).auth = s.auth := by
  unfold setPhase; (repeat' split) <;> simp
@[simp] theorem setPhase_log (d : Disp) (ph : Phase) : (setPhase d ph s).log = s.log := by
  unfold setPhase; (repeat' split) <;> simp
@[simp] theorem setPhase_fault (d : Disp) (ph : Phase) : (setPhase d ph s).fault = s.fault := by
  unfold setPhase; (repeat' split) <;> simp
@[simp] theorem setPhase_kept (d : Disp) (ph : Phase) : (setPhase d ph s).kept = s.kept := by
  unfold setPhase; (repeat' split) <;> simp

@[simp] theorem setMode_inv (m : Mode) : (setMode m s).inv = s.inv := by
  unfold setMode; (repeat' split) <;> simp
@[simp] theorem setMode_unit (m : Mode) : (setMode m s).unit = s.unit := by
  unfold setMode; (repeat' split) <;> simp
@[simp] theorem setMode_cold (m : Mode) : (setMode m s).cold = s.cold := by
  unfold setMode; (repeat' split) <;> simp
@[simp] theorem setMode_lane (m : Mode) : (setMode m s).lane = s.lane := by
  unfold setMode; (repeat' split) <;> simp
@[simp] theorem setMode_auth (m : Mode) : (setMode m s).auth = s.auth := by
  unfold setMode; (repeat' split) <;> simp
@[simp] theorem setMode_log (m : Mode) : (setMode m s).log = s.log := by
  unfold setMode; (repeat' split) <;> simp
@[simp] theorem setMode_kept (m : Mode) : (setMode m s).kept = s.kept := by
  unfold setMode; (repeat' split) <;> simp

/-! ### Authorizations -/

@[simp] theorem freeEntry_port (n : Nat) : (freeEntry n s).port = s.port := by simp [freeEntry]
@[simp] theorem freeEntry_inv (n : Nat) : (freeEntry n s).inv = s.inv := by simp [freeEntry]
@[simp] theorem freeEntry_unit (n : Nat) : (freeEntry n s).unit = s.unit := by simp [freeEntry]
@[simp] theorem freeEntry_cold (n : Nat) : (freeEntry n s).cold = s.cold := by simp [freeEntry]
@[simp] theorem freeEntry_lane (n : Nat) : (freeEntry n s).lane = s.lane := by simp [freeEntry]
@[simp] theorem freeEntry_log (n : Nat) : (freeEntry n s).log = s.log := by simp [freeEntry]
@[simp] theorem freeEntry_fault (n : Nat) : (freeEntry n s).fault = s.fault := by simp [freeEntry]
@[simp] theorem freeEntry_kept (n : Nat) : (freeEntry n s).kept = s.kept := by simp [freeEntry]

@[simp] theorem modEntry_port (n : Nat) (f : AuthEntry → AuthEntry) : (modEntry n f s).port = s.port := by simp [modEntry]
@[simp] theorem modEntry_inv (n : Nat) (f : AuthEntry → AuthEntry) : (modEntry n f s).inv = s.inv := by simp [modEntry]
@[simp] theorem modEntry_unit (n : Nat) (f : AuthEntry → AuthEntry) : (modEntry n f s).unit = s.unit := by simp [modEntry]
@[simp] theorem modEntry_cold (n : Nat) (f : AuthEntry → AuthEntry) : (modEntry n f s).cold = s.cold := by simp [modEntry]
@[simp] theorem modEntry_lane (n : Nat) (f : AuthEntry → AuthEntry) : (modEntry n f s).lane = s.lane := by simp [modEntry]
@[simp] theorem modEntry_log (n : Nat) (f : AuthEntry → AuthEntry) : (modEntry n f s).log = s.log := by simp [modEntry]
@[simp] theorem modEntry_fault (n : Nat) (f : AuthEntry → AuthEntry) : (modEntry n f s).fault = s.fault := by simp [modEntry]
@[simp] theorem modEntry_kept (n : Nat) (f : AuthEntry → AuthEntry) : (modEntry n f s).kept = s.kept := by simp [modEntry]

@[simp] theorem makePending_inv (e : AuthEntry) : (makePending e s).inv = s.inv := by simp [makePending]
@[simp] theorem makePending_unit (e : AuthEntry) : (makePending e s).unit = s.unit := by simp [makePending]
@[simp] theorem makePending_cold (e : AuthEntry) : (makePending e s).cold = s.cold := by simp [makePending]
@[simp] theorem makePending_lane (e : AuthEntry) : (makePending e s).lane = s.lane := by simp [makePending]
@[simp] theorem makePending_log (e : AuthEntry) : (makePending e s).log = s.log := by simp [makePending]
@[simp] theorem makePending_fault (e : AuthEntry) : (makePending e s).fault = s.fault := by simp [makePending]
@[simp] theorem makePending_kept (e : AuthEntry) : (makePending e s).kept = s.kept := by simp [makePending]

@[simp] theorem leaveOutstanding_inv (d : Disp) : (leaveOutstanding d s).inv = s.inv := by
  unfold leaveOutstanding; dsimp only; (repeat' split) <;> simp
@[simp] theorem leaveOutstanding_unit (d : Disp) : (leaveOutstanding d s).unit = s.unit := by
  unfold leaveOutstanding; dsimp only; (repeat' split) <;> simp
@[simp] theorem leaveOutstanding_cold (d : Disp) : (leaveOutstanding d s).cold = s.cold := by
  unfold leaveOutstanding; dsimp only; (repeat' split) <;> simp
@[simp] theorem leaveOutstanding_lane (d : Disp) : (leaveOutstanding d s).lane = s.lane := by
  unfold leaveOutstanding; dsimp only; (repeat' split) <;> simp
@[simp] theorem leaveOutstanding_log (d : Disp) : (leaveOutstanding d s).log = s.log := by
  unfold leaveOutstanding; dsimp only; (repeat' split) <;> simp
@[simp] theorem leaveOutstanding_fault (d : Disp) : (leaveOutstanding d s).fault = s.fault := by
  unfold leaveOutstanding; dsimp only; (repeat' split) <;> simp
@[simp] theorem leaveOutstanding_kept (d : Disp) : (leaveOutstanding d s).kept = s.kept := by
  unfold leaveOutstanding; dsimp only; (repeat' split) <;> simp

@[simp] theorem returnEntry_inv (d : Disp) (r : Reason) : (returnEntry d r s).inv = s.inv := by
  unfold returnEntry; (repeat' split) <;> simp
@[simp] theorem returnEntry_unit (d : Disp) (r : Reason) : (returnEntry d r s).unit = s.unit := by
  unfold returnEntry; (repeat' split) <;> simp
@[simp] theorem returnEntry_cold (d : Disp) (r : Reason) : (returnEntry d r s).cold = s.cold := by
  unfold returnEntry; (repeat' split) <;> simp
@[simp] theorem returnEntry_lane (d : Disp) (r : Reason) : (returnEntry d r s).lane = s.lane := by
  unfold returnEntry; (repeat' split) <;> simp
@[simp] theorem returnEntry_log (d : Disp) (r : Reason) : (returnEntry d r s).log = s.log := by
  unfold returnEntry; (repeat' split) <;> simp
@[simp] theorem returnEntry_fault (d : Disp) (r : Reason) : (returnEntry d r s).fault = s.fault := by
  unfold returnEntry; (repeat' split) <;> simp
@[simp] theorem returnEntry_kept (d : Disp) (r : Reason) : (returnEntry d r s).kept = s.kept := by
  unfold returnEntry; (repeat' split) <;> simp

@[simp] theorem settleEntry_inv (d : Disp) : (settleEntry d s).inv = s.inv := by
  unfold settleEntry; (repeat' split) <;> simp
@[simp] theorem settleEntry_unit (d : Disp) : (settleEntry d s).unit = s.unit := by
  unfold settleEntry; (repeat' split) <;> simp
@[simp] theorem settleEntry_cold (d : Disp) : (settleEntry d s).cold = s.cold := by
  unfold settleEntry; (repeat' split) <;> simp
@[simp] theorem settleEntry_lane (d : Disp) : (settleEntry d s).lane = s.lane := by
  unfold settleEntry; (repeat' split) <;> simp
@[simp] theorem settleEntry_log (d : Disp) : (settleEntry d s).log = s.log := by
  unfold settleEntry; (repeat' split) <;> simp
@[simp] theorem settleEntry_fault (d : Disp) : (settleEntry d s).fault = s.fault := by
  unfold settleEntry; (repeat' split) <;> simp
@[simp] theorem settleEntry_kept (d : Disp) : (settleEntry d s).kept = s.kept := by
  unfold settleEntry; (repeat' split) <;> simp

/-! ### The log -/

@[simp] theorem reserveSlot_inv : (reserveSlot s).inv = s.inv := by
  unfold reserveSlot; dsimp only; (repeat' split) <;> simp
@[simp] theorem reserveSlot_unit : (reserveSlot s).unit = s.unit := by
  unfold reserveSlot; dsimp only; (repeat' split) <;> simp
@[simp] theorem reserveSlot_cold : (reserveSlot s).cold = s.cold := by
  unfold reserveSlot; dsimp only; (repeat' split) <;> simp
@[simp] theorem reserveSlot_lane : (reserveSlot s).lane = s.lane := by
  unfold reserveSlot; dsimp only; (repeat' split) <;> simp
@[simp] theorem reserveSlot_auth : (reserveSlot s).auth = s.auth := by
  unfold reserveSlot; dsimp only; (repeat' split) <;> simp
@[simp] theorem reserveSlot_fault : (reserveSlot s).fault = s.fault := by
  unfold reserveSlot; dsimp only; (repeat' split) <;> simp
@[simp] theorem reserveSlot_kept : (reserveSlot s).kept = s.kept := by
  unfold reserveSlot; dsimp only; (repeat' split) <;> simp

@[simp] theorem reserveForRecovery_port : (reserveForRecovery s).port = s.port := by simp [reserveForRecovery]
@[simp] theorem reserveForRecovery_inv : (reserveForRecovery s).inv = s.inv := by simp [reserveForRecovery]
@[simp] theorem reserveForRecovery_unit : (reserveForRecovery s).unit = s.unit := by simp [reserveForRecovery]
@[simp] theorem reserveForRecovery_cold : (reserveForRecovery s).cold = s.cold := by simp [reserveForRecovery]
@[simp] theorem reserveForRecovery_lane : (reserveForRecovery s).lane = s.lane := by simp [reserveForRecovery]
@[simp] theorem reserveForRecovery_auth : (reserveForRecovery s).auth = s.auth := by simp [reserveForRecovery]
@[simp] theorem reserveForRecovery_fault : (reserveForRecovery s).fault = s.fault := by simp [reserveForRecovery]
@[simp] theorem reserveForRecovery_kept : (reserveForRecovery s).kept = s.kept := by simp [reserveForRecovery]

@[simp] theorem releaseReservation_port : (releaseReservation s).port = s.port := by simp [releaseReservation]
@[simp] theorem releaseReservation_inv : (releaseReservation s).inv = s.inv := by simp [releaseReservation]
@[simp] theorem releaseReservation_unit : (releaseReservation s).unit = s.unit := by simp [releaseReservation]
@[simp] theorem releaseReservation_cold : (releaseReservation s).cold = s.cold := by simp [releaseReservation]
@[simp] theorem releaseReservation_lane : (releaseReservation s).lane = s.lane := by simp [releaseReservation]
@[simp] theorem releaseReservation_auth : (releaseReservation s).auth = s.auth := by simp [releaseReservation]
@[simp] theorem releaseReservation_fault : (releaseReservation s).fault = s.fault := by simp [releaseReservation]
@[simp] theorem releaseReservation_kept : (releaseReservation s).kept = s.kept := by simp [releaseReservation]

@[simp] theorem modSlot_port (d : Disp) (f : OpenSlot → OpenSlot) : (modSlot d f s).port = s.port := by simp [modSlot]
@[simp] theorem modSlot_inv (d : Disp) (f : OpenSlot → OpenSlot) : (modSlot d f s).inv = s.inv := by simp [modSlot]
@[simp] theorem modSlot_unit (d : Disp) (f : OpenSlot → OpenSlot) : (modSlot d f s).unit = s.unit := by simp [modSlot]
@[simp] theorem modSlot_cold (d : Disp) (f : OpenSlot → OpenSlot) : (modSlot d f s).cold = s.cold := by simp [modSlot]
@[simp] theorem modSlot_lane (d : Disp) (f : OpenSlot → OpenSlot) : (modSlot d f s).lane = s.lane := by simp [modSlot]
@[simp] theorem modSlot_auth (d : Disp) (f : OpenSlot → OpenSlot) : (modSlot d f s).auth = s.auth := by simp [modSlot]
@[simp] theorem modSlot_fault (d : Disp) (f : OpenSlot → OpenSlot) : (modSlot d f s).fault = s.fault := by simp [modSlot]
@[simp] theorem modSlot_kept (d : Disp) (f : OpenSlot → OpenSlot) : (modSlot d f s).kept = s.kept := by simp [modSlot]

@[simp] theorem clearSlot_port (d : Disp) : (clearSlot d s).port = s.port := by simp [clearSlot]
@[simp] theorem clearSlot_inv (d : Disp) : (clearSlot d s).inv = s.inv := by simp [clearSlot]
@[simp] theorem clearSlot_unit (d : Disp) : (clearSlot d s).unit = s.unit := by simp [clearSlot]
@[simp] theorem clearSlot_cold (d : Disp) : (clearSlot d s).cold = s.cold := by simp [clearSlot]
@[simp] theorem clearSlot_lane (d : Disp) : (clearSlot d s).lane = s.lane := by simp [clearSlot]
@[simp] theorem clearSlot_auth (d : Disp) : (clearSlot d s).auth = s.auth := by simp [clearSlot]
@[simp] theorem clearSlot_fault (d : Disp) : (clearSlot d s).fault = s.fault := by simp [clearSlot]
@[simp] theorem clearSlot_kept (d : Disp) : (clearSlot d s).kept = s.kept := by simp [clearSlot]

@[simp] theorem syncSlot_port (d : Disp) : (syncSlot d s).port = s.port := by simp [syncSlot]
@[simp] theorem syncSlot_inv (d : Disp) : (syncSlot d s).inv = s.inv := by simp [syncSlot]
@[simp] theorem syncSlot_unit (d : Disp) : (syncSlot d s).unit = s.unit := by simp [syncSlot]
@[simp] theorem syncSlot_cold (d : Disp) : (syncSlot d s).cold = s.cold := by simp [syncSlot]
@[simp] theorem syncSlot_lane (d : Disp) : (syncSlot d s).lane = s.lane := by simp [syncSlot]
@[simp] theorem syncSlot_auth (d : Disp) : (syncSlot d s).auth = s.auth := by simp [syncSlot]
@[simp] theorem syncSlot_fault (d : Disp) : (syncSlot d s).fault = s.fault := by simp [syncSlot]
@[simp] theorem syncSlot_kept (d : Disp) : (syncSlot d s).kept = s.kept := by simp [syncSlot]

@[simp] theorem modBilled_port (d : Disp) (f : Session → Session) : (modBilled d f s).port = s.port := by simp [modBilled]
@[simp] theorem modBilled_inv (d : Disp) (f : Session → Session) : (modBilled d f s).inv = s.inv := by simp [modBilled]
@[simp] theorem modBilled_cold (d : Disp) (f : Session → Session) : (modBilled d f s).cold = s.cold := by simp [modBilled]
@[simp] theorem modBilled_lane (d : Disp) (f : Session → Session) : (modBilled d f s).lane = s.lane := by simp [modBilled]
@[simp] theorem modBilled_auth (d : Disp) (f : Session → Session) : (modBilled d f s).auth = s.auth := by simp [modBilled]
@[simp] theorem modBilled_fault (d : Disp) (f : Session → Session) : (modBilled d f s).fault = s.fault := by simp [modBilled]
@[simp] theorem modBilled_kept (d : Disp) (f : Session → Session) : (modBilled d f s).kept = s.kept := by simp [modBilled]

@[simp] theorem startCommit_port : (startCommit s).port = s.port := by
  unfold startCommit; dsimp only; (repeat' split) <;> simp
@[simp] theorem startCommit_inv : (startCommit s).inv = s.inv := by
  unfold startCommit; dsimp only; (repeat' split) <;> simp
@[simp] theorem startCommit_unit : (startCommit s).unit = s.unit := by
  unfold startCommit; dsimp only; (repeat' split) <;> simp
@[simp] theorem startCommit_cold : (startCommit s).cold = s.cold := by
  unfold startCommit; dsimp only; (repeat' split) <;> simp
@[simp] theorem startCommit_lane : (startCommit s).lane = s.lane := by
  unfold startCommit; dsimp only; (repeat' split) <;> simp
@[simp] theorem startCommit_auth : (startCommit s).auth = s.auth := by
  unfold startCommit; dsimp only; (repeat' split) <;> simp
@[simp] theorem startCommit_fault : (startCommit s).fault = s.fault := by
  unfold startCommit; dsimp only; (repeat' split) <;> simp
@[simp] theorem startCommit_kept : (startCommit s).kept = s.kept := by
  unfold startCommit; dsimp only; (repeat' split) <;> simp

@[simp] theorem chooseOperation_port : (chooseOperation s).port = s.port := by
  unfold chooseOperation; (repeat' split) <;> simp
@[simp] theorem chooseOperation_inv : (chooseOperation s).inv = s.inv := by
  unfold chooseOperation; (repeat' split) <;> simp
@[simp] theorem chooseOperation_unit : (chooseOperation s).unit = s.unit := by
  unfold chooseOperation; (repeat' split) <;> simp
@[simp] theorem chooseOperation_cold : (chooseOperation s).cold = s.cold := by
  unfold chooseOperation; (repeat' split) <;> simp
@[simp] theorem chooseOperation_lane : (chooseOperation s).lane = s.lane := by
  unfold chooseOperation; (repeat' split) <;> simp
@[simp] theorem chooseOperation_auth : (chooseOperation s).auth = s.auth := by
  unfold chooseOperation; (repeat' split) <;> simp
@[simp] theorem chooseOperation_fault : (chooseOperation s).fault = s.fault := by
  unfold chooseOperation; (repeat' split) <;> simp
@[simp] theorem chooseOperation_kept : (chooseOperation s).kept = s.kept := by
  unfold chooseOperation; (repeat' split) <;> simp

@[simp] theorem offerRecord_port (e : QueueEntry) : (offerRecord e s).port = s.port := by
  unfold offerRecord; (repeat' split) <;> simp
@[simp] theorem offerRecord_inv (e : QueueEntry) : (offerRecord e s).inv = s.inv := by
  unfold offerRecord; (repeat' split) <;> simp
@[simp] theorem offerRecord_unit (e : QueueEntry) : (offerRecord e s).unit = s.unit := by
  unfold offerRecord; (repeat' split) <;> simp
@[simp] theorem offerRecord_cold (e : QueueEntry) : (offerRecord e s).cold = s.cold := by
  unfold offerRecord; (repeat' split) <;> simp
@[simp] theorem offerRecord_lane (e : QueueEntry) : (offerRecord e s).lane = s.lane := by
  unfold offerRecord; (repeat' split) <;> simp
@[simp] theorem offerRecord_auth (e : QueueEntry) : (offerRecord e s).auth = s.auth := by
  unfold offerRecord; (repeat' split) <;> simp
@[simp] theorem offerRecord_fault (e : QueueEntry) : (offerRecord e s).fault = s.fault := by
  unfold offerRecord; (repeat' split) <;> simp
@[simp] theorem offerRecord_kept (e : QueueEntry) : (offerRecord e s).kept = s.kept := by
  unfold offerRecord; (repeat' split) <;> simp

/-! ### The end of a session -/

@[simp] theorem endSettle_inv (d : Disp) : (endSettle d s).inv = s.inv := by simp [endSettle]
@[simp] theorem endSettle_cold (d : Disp) : (endSettle d s).cold = s.cold := by simp [endSettle]
@[simp] theorem endSettle_lane (d : Disp) : (endSettle d s).lane = s.lane := by simp [endSettle]
@[simp] theorem endSettle_auth (d : Disp) : (endSettle d s).auth = s.auth := by simp [endSettle]
@[simp] theorem endSettle_fault (d : Disp) : (endSettle d s).fault = s.fault := by simp [endSettle]
@[simp] theorem endSettle_kept (d : Disp) : (endSettle d s).kept = s.kept := by simp [endSettle]

@[simp] theorem endWithoutRecord_inv (d : Disp) (r : Reason) : (endWithoutRecord d r s).inv = s.inv := by simp [endWithoutRecord]
@[simp] theorem endWithoutRecord_cold (d : Disp) (r : Reason) : (endWithoutRecord d r s).cold = s.cold := by simp [endWithoutRecord]
@[simp] theorem endWithoutRecord_lane (d : Disp) (r : Reason) : (endWithoutRecord d r s).lane = s.lane := by simp [endWithoutRecord]
@[simp] theorem endWithoutRecord_fault (d : Disp) (r : Reason) : (endWithoutRecord d r s).fault = s.fault := by simp [endWithoutRecord]
@[simp] theorem endWithoutRecord_kept (d : Disp) (r : Reason) : (endWithoutRecord d r s).kept = s.kept := by simp [endWithoutRecord]

@[simp] theorem enterClosing_inv (d : Disp) : (enterClosing d s).inv = s.inv := by
  unfold enterClosing; dsimp only; (repeat' split) <;> simp
@[simp] theorem enterClosing_cold (d : Disp) : (enterClosing d s).cold = s.cold := by
  unfold enterClosing; dsimp only; (repeat' split) <;> simp
@[simp] theorem enterClosing_lane (d : Disp) : (enterClosing d s).lane = s.lane := by
  unfold enterClosing; dsimp only; (repeat' split) <;> simp
@[simp] theorem enterClosing_auth (d : Disp) : (enterClosing d s).auth = s.auth := by
  unfold enterClosing; dsimp only; (repeat' split) <;> simp
@[simp] theorem enterClosing_fault (d : Disp) : (enterClosing d s).fault = s.fault := by
  unfold enterClosing; dsimp only; (repeat' split) <;> simp
@[simp] theorem enterClosing_kept (d : Disp) : (enterClosing d s).kept = s.kept := by
  unfold enterClosing; dsimp only; (repeat' split) <;> simp

@[simp] theorem fixEnd_inv (d : Disp) (r : Reason) : (fixEnd d r s).inv = s.inv := by simp [fixEnd]
@[simp] theorem fixEnd_auth (d : Disp) (r : Reason) : (fixEnd d r s).auth = s.auth := by simp [fixEnd]
@[simp] theorem fixEnd_log (d : Disp) (r : Reason) : (fixEnd d r s).log = s.log := by simp [fixEnd]
@[simp] theorem fixEnd_fault (d : Disp) (r : Reason) : (fixEnd d r s).fault = s.fault := by simp [fixEnd]
@[simp] theorem fixEnd_kept (d : Disp) (r : Reason) : (fixEnd d r s).kept = s.kept := by simp [fixEnd]

@[simp] theorem endCore_inv (d : Disp) (r : Reason) : (endCore d r s).inv = s.inv := by
  unfold endCore; dsimp only; (repeat' split) <;> simp
@[simp] theorem endCore_fault (d : Disp) (r : Reason) : (endCore d r s).fault = s.fault := by
  unfold endCore; dsimp only; (repeat' split) <;> simp
@[simp] theorem endCore_kept (d : Disp) (r : Reason) : (endCore d r s).kept = s.kept := by
  unfold endCore; dsimp only; (repeat' split) <;> simp

/-! ### Lanes and refills -/

@[simp] theorem leaveQueue_port (b : Bank) : (leaveQueue b s).port = s.port := by
  unfold leaveQueue; (repeat' split) <;> simp
@[simp] theorem leaveQueue_unit (b : Bank) : (leaveQueue b s).unit = s.unit := by
  unfold leaveQueue; (repeat' split) <;> simp
@[simp] theorem leaveQueue_cold (b : Bank) : (leaveQueue b s).cold = s.cold := by
  unfold leaveQueue; (repeat' split) <;> simp
@[simp] theorem leaveQueue_auth (b : Bank) : (leaveQueue b s).auth = s.auth := by
  unfold leaveQueue; (repeat' split) <;> simp
@[simp] theorem leaveQueue_log (b : Bank) : (leaveQueue b s).log = s.log := by
  unfold leaveQueue; (repeat' split) <;> simp
@[simp] theorem leaveQueue_fault (b : Bank) : (leaveQueue b s).fault = s.fault := by
  unfold leaveQueue; (repeat' split) <;> simp
@[simp] theorem leaveQueue_kept (b : Bank) : (leaveQueue b s).kept = s.kept := by
  unfold leaveQueue; (repeat' split) <;> simp

@[simp] theorem joinQueue_port (b : Bank) (t : Nat) : (joinQueue b t s).port = s.port := by simp [joinQueue]
@[simp] theorem joinQueue_unit (b : Bank) (t : Nat) : (joinQueue b t s).unit = s.unit := by simp [joinQueue]
@[simp] theorem joinQueue_cold (b : Bank) (t : Nat) : (joinQueue b t s).cold = s.cold := by simp [joinQueue]
@[simp] theorem joinQueue_auth (b : Bank) (t : Nat) : (joinQueue b t s).auth = s.auth := by simp [joinQueue]
@[simp] theorem joinQueue_log (b : Bank) (t : Nat) : (joinQueue b t s).log = s.log := by simp [joinQueue]
@[simp] theorem joinQueue_fault (b : Bank) (t : Nat) : (joinQueue b t s).fault = s.fault := by simp [joinQueue]
@[simp] theorem joinQueue_kept (b : Bank) (t : Nat) : (joinQueue b t s).kept = s.kept := by simp [joinQueue]

@[simp] theorem dropRequests_port (b : Bank) : (dropRequests b s).port = s.port := by simp [dropRequests]
@[simp] theorem dropRequests_unit (b : Bank) : (dropRequests b s).unit = s.unit := by simp [dropRequests]
@[simp] theorem dropRequests_cold (b : Bank) : (dropRequests b s).cold = s.cold := by simp [dropRequests]
@[simp] theorem dropRequests_auth (b : Bank) : (dropRequests b s).auth = s.auth := by simp [dropRequests]
@[simp] theorem dropRequests_log (b : Bank) : (dropRequests b s).log = s.log := by simp [dropRequests]
@[simp] theorem dropRequests_fault (b : Bank) : (dropRequests b s).fault = s.fault := by simp [dropRequests]
@[simp] theorem dropRequests_kept (b : Bank) : (dropRequests b s).kept = s.kept := by simp [dropRequests]

@[simp] theorem requeueDeferred_port (b : Bank) : (requeueDeferred b s).port = s.port := by
  unfold requeueDeferred; dsimp only; (repeat' split) <;> simp
@[simp] theorem requeueDeferred_unit (b : Bank) : (requeueDeferred b s).unit = s.unit := by
  unfold requeueDeferred; dsimp only; (repeat' split) <;> simp
@[simp] theorem requeueDeferred_cold (b : Bank) : (requeueDeferred b s).cold = s.cold := by
  unfold requeueDeferred; dsimp only; (repeat' split) <;> simp
@[simp] theorem requeueDeferred_auth (b : Bank) : (requeueDeferred b s).auth = s.auth := by
  unfold requeueDeferred; dsimp only; (repeat' split) <;> simp
@[simp] theorem requeueDeferred_log (b : Bank) : (requeueDeferred b s).log = s.log := by
  unfold requeueDeferred; dsimp only; (repeat' split) <;> simp
@[simp] theorem requeueDeferred_fault (b : Bank) : (requeueDeferred b s).fault = s.fault := by
  unfold requeueDeferred; dsimp only; (repeat' split) <;> simp
@[simp] theorem requeueDeferred_kept (b : Bank) : (requeueDeferred b s).kept = s.kept := by
  unfold requeueDeferred; dsimp only; (repeat' split) <;> simp

@[simp] theorem grantLane_cold (d : Disp) (b : Bank) : (grantLane d b s).cold = s.cold := by simp [grantLane]
@[simp] theorem grantLane_auth (d : Disp) (b : Bank) : (grantLane d b s).auth = s.auth := by simp [grantLane]
@[simp] theorem grantLane_fault (d : Disp) (b : Bank) : (grantLane d b s).fault = s.fault := by simp [grantLane]
@[simp] theorem grantLane_kept (d : Disp) (b : Bank) : (grantLane d b s).kept = s.kept := by simp [grantLane]

@[simp] theorem joinWaitList_port (d : Disp) : (joinWaitList d s).port = s.port := by simp [joinWaitList]
@[simp] theorem joinWaitList_inv (d : Disp) : (joinWaitList d s).inv = s.inv := by simp [joinWaitList]
@[simp] theorem joinWaitList_unit (d : Disp) : (joinWaitList d s).unit = s.unit := by simp [joinWaitList]
@[simp] theorem joinWaitList_cold (d : Disp) : (joinWaitList d s).cold = s.cold := by simp [joinWaitList]
@[simp] theorem joinWaitList_auth (d : Disp) : (joinWaitList d s).auth = s.auth := by simp [joinWaitList]
@[simp] theorem joinWaitList_log (d : Disp) : (joinWaitList d s).log = s.log := by simp [joinWaitList]
@[simp] theorem joinWaitList_fault (d : Disp) : (joinWaitList d s).fault = s.fault := by simp [joinWaitList]
@[simp] theorem joinWaitList_kept (d : Disp) : (joinWaitList d s).kept = s.kept := by simp [joinWaitList]

@[simp] theorem enterWait_inv (d : Disp) (ph : Phase) (n : Nat) : (enterWait d ph n s).inv = s.inv := by simp [enterWait]
@[simp] theorem enterWait_cold (d : Disp) (ph : Phase) (n : Nat) : (enterWait d ph n s).cold = s.cold := by simp [enterWait]
@[simp] theorem enterWait_lane (d : Disp) (ph : Phase) (n : Nat) : (enterWait d ph n s).lane = s.lane := by simp [enterWait]
@[simp] theorem enterWait_auth (d : Disp) (ph : Phase) (n : Nat) : (enterWait d ph n s).auth = s.auth := by simp [enterWait]
@[simp] theorem enterWait_log (d : Disp) (ph : Phase) (n : Nat) : (enterWait d ph n s).log = s.log := by simp [enterWait]
@[simp] theorem enterWait_fault (d : Disp) (ph : Phase) (n : Nat) : (enterWait d ph n s).fault = s.fault := by simp [enterWait]
@[simp] theorem enterWait_kept (d : Disp) (ph : Phase) (n : Nat) : (enterWait d ph n s).kept = s.kept := by simp [enterWait]

@[simp] theorem requestFirst_fault (d : Disp) : (requestFirst d s).fault = s.fault := by
  unfold requestFirst; dsimp only; (repeat' split) <;> simp
@[simp] theorem requestFirst_kept (d : Disp) : (requestFirst d s).kept = s.kept := by
  unfold requestFirst; dsimp only; (repeat' split) <;> simp

@[simp] theorem requestNext_fault (d : Disp) : (requestNext d s).fault = s.fault := by
  unfold requestNext; (repeat' split) <;> simp
@[simp] theorem requestNext_kept (d : Disp) : (requestNext d s).kept = s.kept := by
  unfold requestNext; (repeat' split) <;> simp

@[simp] theorem endRefill_unit (r : EndReason) (e : Option PlantEvent) : (endRefill r e s).unit = s.unit := by
  unfold endRefill; dsimp only; (repeat' split) <;> simp
@[simp] theorem endRefill_cold (r : EndReason) (e : Option PlantEvent) : (endRefill r e s).cold = s.cold := by
  unfold endRefill; dsimp only; (repeat' split) <;> simp
@[simp] theorem endRefill_auth (r : EndReason) (e : Option PlantEvent) : (endRefill r e s).auth = s.auth := by
  unfold endRefill; dsimp only; (repeat' split) <;> simp
@[simp] theorem endRefill_log (r : EndReason) (e : Option PlantEvent) : (endRefill r e s).log = s.log := by
  unfold endRefill; dsimp only; (repeat' split) <;> simp
@[simp] theorem endRefill_fault (r : EndReason) (e : Option PlantEvent) : (endRefill r e s).fault = s.fault := by
  unfold endRefill; dsimp only; (repeat' split) <;> simp
@[simp] theorem endRefill_kept (r : EndReason) (e : Option PlantEvent) : (endRefill r e s).kept = s.kept := by
  unfold endRefill; dsimp only; (repeat' split) <;> simp

@[simp] theorem refillOffer_port : (refillOffer s).port = s.port := by
  unfold refillOffer; dsimp only; (repeat' split) <;> simp
@[simp] theorem refillOffer_unit : (refillOffer s).unit = s.unit := by
  unfold refillOffer; dsimp only; (repeat' split) <;> simp
@[simp] theorem refillOffer_cold : (refillOffer s).cold = s.cold := by
  unfold refillOffer; dsimp only; (repeat' split) <;> simp
@[simp] theorem refillOffer_auth : (refillOffer s).auth = s.auth := by
  unfold refillOffer; dsimp only; (repeat' split) <;> simp
@[simp] theorem refillOffer_log : (refillOffer s).log = s.log := by
  unfold refillOffer; dsimp only; (repeat' split) <;> simp
@[simp] theorem refillOffer_fault : (refillOffer s).fault = s.fault := by
  unfold refillOffer; dsimp only; (repeat' split) <;> simp
@[simp] theorem refillOffer_kept : (refillOffer s).kept = s.kept := by
  unfold refillOffer; dsimp only; (repeat' split) <;> simp

@[simp] theorem yieldTo_cold (d : Disp) : (yieldTo d s).cold = s.cold := by
  unfold yieldTo; dsimp only; (repeat' split) <;> simp
@[simp] theorem yieldTo_auth (d : Disp) : (yieldTo d s).auth = s.auth := by
  unfold yieldTo; dsimp only; (repeat' split) <;> simp
@[simp] theorem yieldTo_fault (d : Disp) : (yieldTo d s).fault = s.fault := by
  unfold yieldTo; dsimp only; (repeat' split) <;> simp
@[simp] theorem yieldTo_kept (d : Disp) : (yieldTo d s).kept = s.kept := by
  unfold yieldTo; dsimp only; (repeat' split) <;> simp

end

end Sys2Proof.Machine
end

