-- ==== Sys2Proof/Laws/Memory.lean ====
section
/-! SUPPORT. Every operation on the record array keeps its canonical form (R151): slots strictly rising and below 2048. -/

namespace Sys2Proof.Machine.Memory

variable {m : List (Nat × LogRecord)}

theorem wf_tail {c : Nat × LogRecord} (h : wf (c :: m)) : wf m := by
  cases m with
  | nil => rfl
  | cons c' m => simp [wf] at h; exact h.2

theorem wf_head_below {c : Nat × LogRecord} (h : wf (c :: m)) : c.1 < 2048 ∧ ∀ x ∈ m, c.1 < x.1 := by
  induction m generalizing c with
  | nil => simpa [wf] using h
  | cons c' m ih =>
    simp [wf] at h
    obtain ⟨hb, hm⟩ := ih h.2
    refine ⟨by omega, ?_⟩
    intro x hx
    rcases List.mem_cons.mp hx with rfl | hx
    · exact h.1
    · exact lt_trans h.1 (hm x hx)

theorem wf_cons {c : Nat × LogRecord} (hc : c.1 < 2048) (hb : ∀ x ∈ m, c.1 < x.1) (hm : wf m) : wf (c :: m) := by
  cases m with
  | nil => simpa [wf] using hc
  | cons c' m => simp [wf]; exact ⟨hb c' (by simp), hm⟩

/-- What a write leaves listed: the written slot, and slots listed before. -/
theorem mem_write {n : Nat} {r : LogRecord} {x : Nat × LogRecord} (h : x ∈ write m n r) : x.1 = n ∨ x ∈ m := by
  induction m with
  | nil => simp [write] at h; simp [h]
  | cons c m ih =>
    unfold write at h
    split at h
    · rcases List.mem_cons.mp h with rfl | h <;> simp_all
    · split at h
      · rcases List.mem_cons.mp h with rfl | h <;> simp_all
      · rcases List.mem_cons.mp h with rfl | h
        · simp
        · rcases ih h with h | h <;> simp [h]

theorem write_wf {n : Nat} (r : LogRecord) (hn : n < 2048) (h : wf m) : wf (write m n r) := by
  induction m with
  | nil => simpa [write, wf] using hn
  | cons c m ih =>
    obtain ⟨hc, hb⟩ := wf_head_below h
    unfold write
    split
    · next hlt =>
      refine wf_cons hn ?_ h
      intro x hx
      rcases List.mem_cons.mp hx with rfl | hx
      · exact hlt
      · exact lt_trans hlt (hb x hx)
    · next hge =>
      split
      · next heq => exact wf_cons hn (fun x hx => heq ▸ hb x hx) (wf_tail h)
      · next hne =>
        refine wf_cons hc ?_ (ih (wf_tail h))
        intro x hx
        rcases mem_write hx with hx | hx
        · omega
        · exact hb x hx

theorem eraseBlock_wf (b : Nat) (h : wf m) : wf (eraseBlock m b) := by
  induction m with
  | nil => rfl
  | cons c m ih =>
    obtain ⟨hc, hb⟩ := wf_head_below h
    have htail := ih (wf_tail h)
    unfold eraseBlock at *
    rw [List.filter_cons]
    split
    · exact wf_cons hc (fun x hx => hb x (List.mem_of_mem_filter hx)) htail
    · exact htail

/-- State.reset lists nothing. -/
theorem reset_wf : wf State.reset.log.array := rfl

end Sys2Proof.Machine.Memory
end

