-- ==== Sys2Proof/Laws/Operations.lean ====
section
/-! SUPPORT. What the operations made of others leave as it was, and what the common parts of requests and events do. -/

namespace Sys2Proof.Machine

/-- What each step of a fold leaves as it was, the fold leaves as it was. -/
theorem foldl_keeps {α β : Type} (g : State → β) {f : State → α → State} (h : ∀ s x, g (f s x) = g s) (xs : List α)
    (s : State) : g (xs.foldl f s) = g s := by
  induction xs generalizing s with
  | nil => rfl
  | cons x xs ih => rw [List.foldl_cons, ih, h]

section
variable (s : State)

/-! ### State changes -/

theorem setPhase_sess (d e : Disp) (ph : Phase) :
    (setPhase d ph s).sess e = if e = d then { s.sess d with phase := ph } else s.sess e := by
  unfold setPhase
  split
  · next h =>
    split
    · next he => subst he; rw [← h]
    · rfl
  · simp [State.sess, addDispEvent, refreshLine, PerDisp.get_set]; split <;> rfl

@[simp] theorem setPhase_phase (d : Disp) (ph : Phase) : ((setPhase d ph s).sess d).phase = ph := by
  rw [setPhase_sess, if_pos rfl]

@[simp] theorem setMode_mode (m : Mode) : (setMode m s).fault.mode = m := by
  unfold setMode
  split
  · next h => exact h
  · simp

/-! ### The arbiter pass -/

theorem passWaiter_cold (d : Disp) : (passWaiter s d).cold = s.cold := by
  unfold passWaiter; (repeat' split) <;> simp
theorem passWaiter_auth (d : Disp) : (passWaiter s d).auth = s.auth := by
  unfold passWaiter; (repeat' split) <;> simp
theorem passWaiter_fault (d : Disp) : (passWaiter s d).fault = s.fault := by
  unfold passWaiter; (repeat' split) <;> simp
theorem passWaiter_kept (d : Disp) : (passWaiter s d).kept = s.kept := by
  unfold passWaiter; (repeat' split) <;> simp

@[simp] theorem arbiterPass_cold : (arbiterPass s).cold = s.cold := by
  unfold arbiterPass; split <;> simp [foldl_keeps State.cold passWaiter_cold]
@[simp] theorem arbiterPass_auth : (arbiterPass s).auth = s.auth := by
  unfold arbiterPass; split <;> simp [foldl_keeps State.auth passWaiter_auth]
@[simp] theorem arbiterPass_fault : (arbiterPass s).fault = s.fault := by
  unfold arbiterPass; split <;> simp [foldl_keeps State.fault passWaiter_fault]
@[simp] theorem arbiterPass_kept : (arbiterPass s).kept = s.kept := by
  unfold arbiterPass; split <;> simp [foldl_keeps State.kept passWaiter_kept]

/-! ### Admission -/

theorem trimOne_kept (st : State × Nat) (d : Disp) : (trimOne st d).1.kept = st.1.kept := by
  unfold trimOne; dsimp only; split <;> simp

theorem trimOne_fault (st : State × Nat) (d : Disp) : (trimOne st d).1.fault = st.1.fault := by
  unfold trimOne; dsimp only; split <;> simp

theorem trimOne_inv (st : State × Nat) (d : Disp) : (trimOne st d).1.inv = st.1.inv := by
  unfold trimOne; dsimp only; split <;> simp

theorem trimOne_cold (st : State × Nat) (d : Disp) : (trimOne st d).1.cold = st.1.cold := by
  unfold trimOne; dsimp only; split <;> simp

theorem trimOnes_keep {β : Type} (g : State → β) (h : ∀ st d, g (trimOne st d).1 = g st.1) (ds : List Disp)
    (st : State × Nat) : g (ds.foldl trimOne st).1 = g st.1 := by
  induction ds generalizing st with
  | nil => rfl
  | cons d ds ih => rw [List.foldl_cons, ih, h]

@[simp] theorem trimClaims_kept : (trimClaims s).kept = s.kept := trimOnes_keep _ trimOne_kept _ _
@[simp] theorem trimClaims_fault : (trimClaims s).fault = s.fault := trimOnes_keep _ trimOne_fault _ _
@[simp] theorem trimClaims_inv : (trimClaims s).inv = s.inv := trimOnes_keep _ trimOne_inv _ _
@[simp] theorem trimClaims_cold : (trimClaims s).cold = s.cold := trimOnes_keep _ trimOne_cold _ _

@[simp] theorem admitAs_kept (d : Disp) (x : ColdClass) : (admitAs d x s).kept = s.kept := by simp [admitAs]
@[simp] theorem admitAs_fault (d : Disp) (x : ColdClass) : (admitAs d x s).fault = s.fault := by simp [admitAs]

/-- A try that admits leaves the fault record and kept as they were. -/
theorem admitHead_keeps {s t : State} (h : admitHead s = some t) : t.fault = s.fault ∧ t.kept = s.kept := by
  unfold admitHead at h
  (repeat' split at h) <;> simp at h
  subst h; simp

theorem admitUpTo_keeps (n : Nat) : (admitUpTo n s).fault = s.fault ∧ (admitUpTo n s).kept = s.kept := by
  induction n generalizing s with
  | zero => exact ⟨rfl, rfl⟩
  | succ n ih =>
    unfold admitUpTo
    split
    · exact ⟨rfl, rfl⟩
    · next t h =>
      obtain ⟨hf, hk⟩ := admitHead_keeps h
      exact ⟨(ih t).1.trans hf, (ih t).2.trans hk⟩

@[simp] theorem tryAdmission_fault : (tryAdmission s).fault = s.fault := (admitUpTo_keeps s _).1
@[simp] theorem tryAdmission_kept : (tryAdmission s).kept = s.kept := (admitUpTo_keeps s _).2

@[simp] theorem askAgain_fault (d : Disp) : (askAgain s d).fault = s.fault := by
  unfold askAgain; (repeat' split) <;> simp
@[simp] theorem askAgain_kept (d : Disp) : (askAgain s d).kept = s.kept := by
  unfold askAgain; (repeat' split) <;> simp

@[simp] theorem resumeAfterRelease_fault (ds : List Disp) : (resumeAfterRelease ds s).fault = s.fault := by
  unfold resumeAfterRelease; dsimp only; split <;> simp [foldl_keeps State.fault askAgain_fault]
@[simp] theorem resumeAfterRelease_kept (ds : List Disp) : (resumeAfterRelease ds s).kept = s.kept := by
  unfold resumeAfterRelease; dsimp only; split <;> simp [foldl_keeps State.kept askAgain_kept]

/-! ### Faults and the end of a session -/

@[simp] theorem recordFault_inv (k : FaultKind) (x : Site) (c : Option Consumer) : (recordFault k x c s).inv = s.inv := by
  simp [recordFault]
@[simp] theorem recordFault_unit (k : FaultKind) (x : Site) (c : Option Consumer) : (recordFault k x c s).unit = s.unit := by
  simp [recordFault]
@[simp] theorem recordFault_lane (k : FaultKind) (x : Site) (c : Option Consumer) : (recordFault k x c s).lane = s.lane := by
  simp [recordFault]
@[simp] theorem recordFault_cold (k : FaultKind) (x : Site) (c : Option Consumer) : (recordFault k x c s).cold = s.cold := by
  simp [recordFault]
@[simp] theorem recordFault_auth (k : FaultKind) (x : Site) (c : Option Consumer) : (recordFault k x c s).auth = s.auth := by
  simp [recordFault]
@[simp] theorem recordFault_log (k : FaultKind) (x : Site) (c : Option Consumer) : (recordFault k x c s).log = s.log := by
  simp [recordFault]
@[simp] theorem recordFault_kept (k : FaultKind) (x : Site) (c : Option Consumer) : (recordFault k x c s).kept = s.kept := by
  simp [recordFault]

@[simp] theorem faultBank_kept (b : Bank) : (faultBank b s).kept = s.kept := by
  unfold faultBank; dsimp only; split <;> simp
@[simp] theorem faultBank_fault (b : Bank) : (faultBank b s).fault = s.fault := by
  unfold faultBank; dsimp only; split <;> simp

variable {enter : State → State} (henter : ∀ s, (enter s).kept = s.kept)
include henter

theorem shutdownAction_kept : (shutdownAction enter s).kept = s.kept := by
  unfold shutdownAction; split <;> simp [henter]

theorem raiseMismatch_kept (b : Bank) : (raiseMismatch enter b s).kept = s.kept := by
  unfold raiseMismatch; dsimp only; split <;> simp [shutdownAction_kept _ henter]

theorem releaseLaneWith_kept (d : Disp) : (releaseLaneWith enter d s).kept = s.kept := by
  unfold releaseLaneWith; dsimp only; (repeat' split) <;> simp [raiseMismatch_kept _ henter]

theorem terminateWith_kept (d : Disp) (r : Reason) : (terminateWith enter d r s).kept = s.kept := by
  unfold terminateWith; dsimp only; (repeat' split) <;> simp [releaseLaneWith_kept _ henter]

omit henter

@[simp] theorem closeAllLanes_kept : (closeAllLanes s).kept = s.kept := by simp [closeAllLanes]

@[simp] theorem enterShutdown_kept : (enterShutdown s).kept = s.kept := by
  unfold enterShutdown
  dsimp only
  rw [closeAllLanes_kept, foldl_keeps State.kept fun t d => terminateWith_kept t (enter := id) (fun _ => rfl) d .shutdown]
  simp

@[simp] theorem releaseLane_kept (d : Disp) : (releaseLane d s).kept = s.kept := releaseLaneWith_kept s enterShutdown_kept d

@[simp] theorem terminate_kept (d : Disp) (r : Reason) : (terminate d r s).kept = s.kept :=
  terminateWith_kept s enterShutdown_kept d r

@[simp] theorem lockDisp_kept (d : Disp) : (lockDisp d s).kept = s.kept := by
  unfold lockDisp; split <;> simp

@[simp] theorem raiseDisp_kept (k : FaultKind) (d : Disp) : (raiseDisp k d s).kept = s.kept := by
  unfold raiseDisp stopDisp; dsimp only; split <;> simp [shutdownAction_kept _ enterShutdown_kept]

@[simp] theorem raiseStation_kept (k : FaultKind) : (raiseStation k s).kept = s.kept := by
  unfold raiseStation; dsimp only; (repeat' split) <;> simp [shutdownAction_kept _ enterShutdown_kept]

@[simp] theorem loseLane_kept (b : Bank) : (loseLane b s).kept = s.kept := by
  unfold loseLane; split <;> simp

@[simp] theorem raiseBank_kept (k : FaultKind) (b : Bank) (c : Option Consumer) : (raiseBank k b c s).kept = s.kept := by
  unfold raiseBank stopBank; dsimp only; split <;> simp [shutdownAction_kept _ enterShutdown_kept]

/-! ### Requests and events -/

variable (before after : State → State) (p : Port) (allowed : Port → Bool) (body : State → State × Reply)

theorem requestWith_unpowered (h : s.powered = false) : requestWith before after p allowed body s = s := by
  simp [requestWith, h]

theorem requestWith_refused (h : s.powered) (hp : allowed p = false) :
    requestWith before after p allowed body s = after (placeReply p (refuse .wrongPort) (before s)) := by
  simp [requestWith, h, hp]

theorem requestWith_taken (h : s.powered) (hp : allowed p) :
    requestWith before after p allowed body s =
      after (placeReply p (body (before s)).2 (body (before s)).1) := by
  simp [requestWith, h, hp]

theorem event_unpowered (f : State → State) (h : s.powered = false) : event f s = s := by simp [event, h]

theorem event_powered (f : State → State) (h : s.powered) : event f s = f s := by simp [event, h]

/-- R191: the slot of the port holds the reply, and the other ports' slots stand. -/
theorem placeReply_slots (q : Port) (r : Reply) :
    (placeReply p r s).port.slots.get q = if q = p then r else s.port.slots.get q := by
  simp [placeReply, PerPort.get_set]

end

/-! ### The start of a commit -/

/-- R155: the start of a commit leaves the free count unchanged. -/
theorem startCommit_freeSlots {s : State} {e : QueueEntry} {rest : List QueueEntry} {v : LogView} (ho : s.log.op = .idle)
    (hq : s.log.queue = e :: rest) (hv : s.log.view = some v) (h1 : 1 ≤ v.erased) (h2 : v.newest.getD 0 < maxWord)
    (h3 : 1 ≤ s.log.reserved) : freeSlots (startCommit s) = freeSlots s := by
  have key : min (v.erased - 1) (maxWord - (v.newest.getD 0 + 1)) - (s.log.reserved - 1) =
      min v.erased (maxWord - v.newest.getD 0) - s.log.reserved := by omega
  unfold startCommit freeSlots
  rw [hq, hv]
  cases hd : e.source.disp? <;> simpa [hd, modSlot, State.modLog, remainingNumbers, lastGiven, ho] using key

end Sys2Proof.Machine
end

