-- ==== Sys2Proof/Tests/Slice0.lean ====
section
/-! SUPPORT. Tests of the model, and a witness for the hypotheses of each statement. Expected values come from the manual: its
example station (00_scope.md), its worked cases and its encodings (R192); the rule stands at each test. -/

open Sys2Proof Sys2Proof.Machine

set_option maxRecDepth 100000
set_option synthInstance.maxSize 4096

namespace Sys2Proof.Tests

/-- What a step must answer, seen through a check of the next state. -/
def holds (o : Host.Outcome State Fault Refusal) (f : State → Bool) : Bool :=
  match o with
  | .next t => f t
  | .fault _ => false
  | .refused _ => false

/-! ### The example station (00_scope.md) -/

/-- The reference table. -/
def referenceTable : GasTable :=
  { state := .valid,
    rows := [[0, 980, 1790, 2560, 3210, 3760, 4230, 4690, 5090, 5460], [0, 900, 1680, 2390, 3000, 3530, 3990, 4440, 4830, 5190],
             [0, 840, 1570, 2230, 2810, 3320, 3770, 4200, 4580, 4930], [0, 780, 1480, 2100, 2650, 3140, 3560, 3960, 4330, 4670],
             [0, 730, 1400, 1990, 2510, 2980, 3390, 3760, 4110, 4440],
             [0, 690, 1320, 1890, 2390, 2840, 3240, 3590, 3930, 4250]].map fun es => { entries := es, received := true },
    refH70 := some 4020, refH35 := some 2412 }

/-- A bank of the example station, FRESH at a pressure, with no density computed. -/
def exampleBank (tier rated volume : Nat) (h70 h35 : Bool) (pressure inventory : Nat) : BankEntry :=
  { BankEntry.unconfigured with
    configured := true, volume := volume, rated := rated, tier := tier, servesH70 := h70, servesH35 := h35, refillStart := 2000,
    refillStop := rated, service := .inService, fresh := true, pressure := pressure, inventory := inventory,
    staleTimer := some 5000 }

def exampleBanks : PerBank BankEntry :=
  { b0 := exampleBank 1 4500 4000 true true 4200 105600, b1 := exampleBank 2 9000 1500 true false 8600 64965,
    b2 := exampleBank 3 9000 1500 true false 8800 65000, b3 := exampleBank 1 5000 6000 false true 4300 150000,
    b4 := exampleBank 2 5000 6000 false true 4460 150000, b5 := exampleBank 3 9000 1000 true true 9000 46000 }

/-- The example H70 and H35 profiles (after R56). -/
def exampleH70 : ProfileArgs :=
  { hoseClass := 0, dpUp := 700, dpLow := 1000, targetSoc := 1000, nominalMass := 5000,
    cells := [2800, 2400, 2000, 0, 2600, 2200, 1800, 0, 2400, 2000, 1600, 0, 2200, 1800, 1400, 0, 2000, 1600, 1200, 0,
              1800, 1400, 1000, 0],
    targets := [8100, 7900, 7700, 7500, 7300, 7000] }

def exampleH35 : ProfileArgs :=
  { hoseClass := 1, dpUp := 500, dpLow := 800, targetSoc := 950, nominalMass := 20000,
    cells := [3000, 2600, 2200, 1600, 2900, 2500, 2100, 1500, 2800, 2400, 2000, 1400, 2700, 2300, 1900, 1300,
              2600, 2200, 1800, 1200, 2400, 2000, 1600, 1000],
    targets := [4100, 4000, 3900, 3800, 3700, 3600] }

def exampleProfile (a : ProfileArgs) : Profile :=
  { valid := true, dpUp := a.dpUp, dpLow := a.dpLow, targetSoc := a.targetSoc, nominalMass := a.nominalMass,
    bands := (List.range 6).map fun i =>
      { a := a.cells.getD (4 * i) 0, b := a.cells.getD (4 * i + 1) 0, c := a.cells.getD (4 * i + 2) 0,
        n := a.cells.getD (4 * i + 3) 0, target := a.targets.getD i 0 } }

/-- Entry 7 of the worked fill: SINGLE on D0, price 1349, limit 6000, no preset, and so a budget of 4447 g. -/
def entry7 : AuthEntry :=
  { number := 7, disp := .d0, kind := .single, account := 1, group := 0, line := 1, price := 1349, limit := 6000, preset := none,
    budget := 4447, vehicles := none, expiry := 100, timer := some 100000, bound := false, revokeOnClose := false }

def exampleUnit (h : HoseClass) : SessionUnit := { SessionUnit.reset with hoseClass := some h }

/-- The example station in RUN with nothing going on: cold load A 1200 and a reserve of 50000, entry 7 PENDING, an empty array. -/
def station : State :=
  { State.reset with
    inv := { Inventory.reset with banks := exampleBanks, table := referenceTable },
    unit := { d0 := exampleUnit .h70, d1 := exampleUnit .h70, d2 := exampleUnit .h35, d3 := exampleUnit .h35 },
    ramp := { h70 := exampleProfile exampleH70, h35 := exampleProfile exampleH35 },
    cold := { ColdReserve.reset with
      config := { capacity := 200000, loadA := 1200, loadB := 900, loadC := 700, limitA := -300, limitB := -200, limitC := -100 },
      reserve := 50000, lastStamp := 5 },
    auth := { AuthTable.reset with tariffs := AuthTable.reset.tariffs.set 1 (some 1349), entries := [entry7], lastNumber := 7 },
    log := { State.reset.log with
      view := some { erased := 2048, oldest := none, newest := none, writePos := 0 }, recovering := false, cursor := 1,
      retained := { Retained.newPart with marker := true } },
    fault := { State.reset.fault with mode := .run, esdArmed := true } }

/-- D0's record in the worked fill, in FLOWING on B0 from baseline 1980, class A, claim 4608. -/
def fillRecord : Session :=
  { Session.reset with
    phase := .flowing, authNumber := some 7, hoseClass := some .h70, fillKind := some .comm, band := some 5,
    classAtStart := some .a, classNow := some .a, claim := 4608, stamp := some 5, rampBaseline := 1980, aprr := 1800,
    lastCeiling := 2680, currentBank := some .b0,
    bankUse := [{ bank := .b0, massAtGrant := 0, drawn := 0, inventoryAtGrant := 105600 }], k := 10000, budget := 4447,
    flowBegun := true, hosePressure := 1980, vehicle := some { volume := 150, pressure := 2000, temperature := 250, time := 0 },
    supervision := some 800, graceTimer := some 30000 }

/-- The open-session slot that goes with it. -/
def fillSlot : OpenSlot :=
  { authNumber := 7, account := 1, group := 0, line := 1, price := 1349, limit := 6000, hoseClass := some .h70, startTime := 0,
    startUnset := true, k := 10000, metrology := 0, fillKind := some .comm, pulses := 0, classAtStart := some .a,
    classNow := some .a, coldShortfall := false, bankUse := [(.b0, 0)], committing := none }

/-- The example station with a record in D0, its entry BOUND and one slot reserved. -/
def withD0 (r : Session) (permit : Bool) : State :=
  { station with
    unit := { station.unit with
      d0 := { exampleUnit .h70 with sess := r, nozzleOn := true, permit := permit, interval := 800 } },
    auth := { station.auth with entries := [{ entry7 with bound := true, timer := none }] },
    log := { station.log with
      reserved := 1,
      retained := { station.log.retained with slots := { d0 := some fillSlot, d1 := none, d2 := none, d3 := none } } } }

/-- A bank lane held by a consumer, with its valve. -/
def holding (b : Bank) (c : Consumer) (isOpen : Bool) (s : State) : State :=
  setValve b c isOpen (s.modBank b fun e => { e with holder := some c })

/-- The worked fill after its first switch completion. -/
def flowing : State := holding .b0 (.disp .d0) true (withD0 fillRecord true)

/-- The worked fill between the grant of B0 and the completion of the switch. -/
def switching : State :=
  (holding .b0 (.disp .d0) false
    (withD0 { fillRecord with phase := .switching, flowBegun := false, graceTimer := none, hosePressure := 1980 } false)).modUnit
      .d0 fun u => { u with switchTimer := some 600 }

/-- D0 at the head of the admission queue. -/
def coldWaiting : State :=
  (withD0 { fillRecord with
    phase := .coldWait, claim := 0, stamp := none, band := none, classAtStart := none, classNow := none, currentBank := none,
    bankUse := [], flowBegun := false, graceTimer := none, aprr := 0, rampBaseline := 0, lastCeiling := 0,
    waitTimer := some 120000 } false).modCold fun c => { c with queue := [.d0], reserve := 0 }

/-- D0 in BANK_WAIT on the lane wait list, while the compressor refills B1 and every other bank it could take is STALE. -/
def bankWaiting : State :=
  let s := withD0 { fillRecord with phase := .bankWait, currentBank := none, waitTimer := some 60000 } true
  let s := Bank.all.foldl (fun s b => s.modBank b fun e => { e with fresh := b == .b1 }) s
  let s := holding .b1 .compressor true s
  s.modLane fun l =>
    { l with
      waitList := [{ disp := .d0, joined := 0, yieldTimer := some 10000, due := false, waited := 0 }],
      refill := { l.refill with state := .running, bank := some .b1, requestTime := some 3 } }

/-- The worked fill on B0, whose refill was deferred, with B2 of tier 3 and then B4 of tier 2 in the refill queue. -/
def requesting : State :=
  let s := flowing.modBank .b4 fun e => { e with requestTime := some 7 }
  (s.modBank .b2 fun e => { e with requestTime := some 9 }).modLane fun l =>
    { l with refillQueue := [.b2, .b4], deferred := [{ bank := .b0, time := 3 }] }

/-- The worked fill in its settle window at 36,690 pulses, 2480 g from B0 and 1189 g from B1 (steps 6 and 7). -/
def closing : State :=
  withD0 { fillRecord with
    phase := .closing, claim := 0, currentBank := none, pulses := 36690, mass := 3669, supervision := none, graceTimer := none,
    settleTimer := some 1500, reason := some .stopRequest, endTime := some 900,
    vehicle := some { volume := 150, pressure := 6650, temperature := 125, time := 0 },
    bankUse := [{ bank := .b0, massAtGrant := 0, drawn := 2480, inventoryAtGrant := 105600 },
                { bank := .b1, massAtGrant := 2480, drawn := 1189, inventoryAtGrant := 64965 }] } false

/-- The sale record of the worked fill (step 8). -/
def fillSale : SaleRecord :=
  { disp := .d0, station := 0, seq := 1, startTime := 0, endTime := 900, authNumber := 7, group := 0, line := 1, account := 1,
    price := 1349, limit := 6000, mass := 3669, amount := 4949, k := 10000, metrology := 0, soc := some 971,
    hoseClass := some .h70, fillKind := some .comm, classAtStart := some .a, classAtEnd := some .a,
    reason := some .stopRequest, timeUnset := false, capped := false, coldShortfall := false,
    bankUse := [(.b0, 2480), (.b1, 1189)] }

/-- The worked fill with its record committing into slot 0. -/
def committing : State :=
  (closing.modSess .d0 fun r => { r with phase := .commitWait, settleTimer := none }).modLog fun l =>
    { l with op := .committing { source := .session .d0, record := .sale fillSale } 0 1, carried := false, reserved := 0,
             view := some { erased := 2047, oldest := none, newest := none, writePos := 1 } }

/-- The states above are lawful ones. -/
theorem test_example_states_lawful :
    ([station, flowing, switching, coldWaiting, bankWaiting, closing, committing].all fun s =>
      claimsLawful s && linesLawful s && massesLawful s && severitiesLawful s && arrayLawful s && authLawful s &&
      sessionsLawful s && lanesLawful s && waitersServed s) = true := by decide

/-! ### Well-formed commands: an ill-formed term for each check -/

/-- A number of 4 bytes, a signed one, a byte, and the number of an authorization. -/
theorem test_wf_numbers :
    (([.clearBank .plant (some 4294967296), .ambientReport .plant (some 2147483648), .ambientReport .plant (some (-2147483649)),
      .compressorReport .plant (some 256), .readSession .plant (some 4294967296), .setSettle .plant (some 4294967296),
      .coldSet .plant (some 4294967296), .refillStop .plant (some 4294967296), .clearPrice .sales (some 4294967296),
      .cancelAuth .sales (some 4294967296), .readAuth .sales (some (some 4294967296)),
      .exportStart .sales (some (some 4294967296)), .release .sales (some 4294967296), .clearFaults .plant (some 256),
      .clearLock .plant (some 4294967296), .setTime .sales (some 4294967296), .setStationId .plant (some 4294967296),
      .authExpiry 0, .authExpiry 65536] : List Instr).all fun i => !i.wf) = true := by decide

/-- BANK_CONFIG: each value too large, and values carried with configured no. -/
theorem test_wf_bank_config :
    ((let a : BankConfigArgs :=
        { bank := 0, configured := true, volume := 0, rated := 0, tier := 0, serves := 0, refillStart := 0, refillStop := 0 }
      let big := 4294967296
      [{ a with bank := big }, { a with volume := big }, { a with rated := big }, { a with tier := big },
       { a with refillStart := big }, { a with refillStop := big }, { a with configured := false, volume := 1 },
       { a with configured := false, serves := 1 }]).all fun a => !(Instr.bankConfig .plant (some a)).wf) = true := by decide

/-- Lists: too many entries for a payload, and an entry too large. -/
theorem test_wf_lists :
    (([.bankReport .plant (some (List.replicate 14 ⟨0, 0, 0⟩)), .bankReport .plant (some [⟨4294967296, 0, 0⟩]),
      .bankReport .plant (some [⟨0, 4294967296, 0⟩]), .bankReport .plant (some [⟨0, 0, 2147483648⟩]),
      .tableRow .plant (some ⟨0, List.replicate 40 0⟩), .tableRow .plant (some ⟨4294967296, []⟩),
      .tableRow .plant (some ⟨0, [4294967296]⟩),
      .profileLoad .plant (some { exampleH70 with cells := [] }), .profileLoad .plant (some { exampleH70 with targets := [] }),
      .profileLoad .plant (some { exampleH70 with cells := 4294967296 :: exampleH70.cells.tail }),
      .profileLoad .plant (some { exampleH70 with targets := 4294967296 :: exampleH70.targets.tail }),
      .profileLoad .plant (some { exampleH70 with hoseClass := 256 }),
      .profileLoad .plant (some { exampleH70 with dpUp := 4294967296 }),
      .profileLoad .plant (some { exampleH70 with dpLow := 4294967296 }),
      .profileLoad .plant (some { exampleH70 with targetSoc := 4294967296 }),
      .profileLoad .plant (some { exampleH70 with nominalMass := 4294967296 })] : List Instr).all fun i => !i.wf) = true := by
  decide

/-- The commands of a session and a dispenser. -/
theorem test_wf_sessions :
    (([.nozzleOn (.disp .d0) (some ⟨4294967296, none, none, none⟩), .nozzleOn (.disp .d0) (some ⟨0, some 4294967296, none, none⟩),
      .nozzleOn (.disp .d0) (some ⟨0, none, some 4294967296, none⟩), .nozzleOn (.disp .d0) (some ⟨0, none, none, some 2147483648⟩),
      .report (.disp .d0) (some ⟨4294967296, 0, none, none⟩), .report (.disp .d0) (some ⟨0, 2147483648, none, none⟩),
      .report (.disp .d0) (some ⟨0, 0, some 4294967296, none⟩), .report (.disp .d0) (some ⟨0, 0, none, some (-2147483649)⟩),
      .setDispenser .plant (some ⟨4294967296, 0, 0⟩), .setDispenser .plant (some ⟨0, 256, 0⟩),
      .setDispenser .plant (some ⟨0, 0, 4294967296⟩)] : List Instr).all fun i => !i.wf) = true := by decide

/-- The commands of the cold reserve, the lanes, the meter and the Fault Monitor. -/
theorem test_wf_settings :
    (([.coldConfig .plant (some ⟨4294967296, 0, 0, 0, 0, 0, 0⟩), .coldConfig .plant (some ⟨0, 4294967296, 0, 0, 0, 0, 0⟩),
      .coldConfig .plant (some ⟨0, 0, 4294967296, 0, 0, 0, 0⟩), .coldConfig .plant (some ⟨0, 0, 0, 4294967296, 0, 0, 0⟩),
      .coldConfig .plant (some ⟨0, 0, 0, 0, 2147483648, 0, 0⟩), .coldConfig .plant (some ⟨0, 0, 0, 0, 0, 2147483648, 0⟩),
      .coldConfig .plant (some ⟨0, 0, 0, 0, 0, 0, 2147483648⟩), .chillerReport .plant (some ⟨256, none⟩),
      .chillerReport .plant (some ⟨0, some 4294967296⟩), .laneSettings .plant (some ⟨4294967296, 0, 0, 0⟩),
      .laneSettings .plant (some ⟨0, 4294967296, 0, 0⟩), .laneSettings .plant (some ⟨0, 0, 4294967296, 0⟩),
      .laneSettings .plant (some ⟨0, 0, 0, 4294967296⟩), .valveReport .plant (some ⟨4294967296, 0⟩),
      .valveReport .plant (some ⟨0, 256⟩), .setMeterFactor .plant (some ⟨4294967296, 0⟩),
      .setMeterFactor .plant (some ⟨0, 4294967296⟩), .setSeverity .plant (some ⟨256, 0⟩), .setSeverity .plant (some ⟨0, 256⟩),
      .countSelect .plant (some ⟨4294967296, 0⟩), .countSelect .plant (some ⟨0, 256⟩)] : List Instr).all fun i => !i.wf) = true := by
  decide

/-- The commands of the sales terminal; a REVOKE of all entries carries no number. -/
theorem test_wf_sales :
    ((let a : AuthorizeArgs :=
        { disp := 0, kind := 0, account := 0, group := 0, line := 0, limit := 0, expiry := 0, preset := none, vehicles := none }
      let big := 4294967296
      ([.setPrice .sales (some ⟨big, 0⟩), .setPrice .sales (some ⟨0, big⟩), .authorize .sales (some { a with disp := big }),
       .authorize .sales (some { a with kind := 256 }), .authorize .sales (some { a with account := big }),
       .authorize .sales (some { a with group := big }), .authorize .sales (some { a with line := big }),
       .authorize .sales (some { a with limit := big }), .authorize .sales (some { a with expiry := big }),
       .authorize .sales (some { a with preset := some big }), .authorize .sales (some { a with vehicles := some big }),
       .revoke .sales (some ⟨256, 0, 0⟩), .revoke .sales (some ⟨1, big, 0⟩), .revoke .sales (some ⟨0, 0, 256⟩),
       .revoke .sales (some ⟨0, 1, 0⟩)] : List Instr)).all fun i => !i.wf) = true := by decide

/-! ### Frames written out from R192: the name behind its length, the payload behind its length, the CRC-16

The CRC of each was computed apart from the model. -/

theorem test_frame_bank_config :
    decodeFrame .plant
      [0x0B, 0x42, 0x41, 0x4E, 0x4B, 0x5F, 0x43, 0x4F, 0x4E, 0x46, 0x49, 0x47, 0x1A, 0x00, 0x00, 0x00, 0x01, 0x00, 0x00, 0x00, 0x05, 0xDC, 0x00, 0x00, 0x23, 0x28, 0x00, 0x00, 0x00, 0x02, 0x01, 0x00, 0x00, 0x0F, 0xA0, 0x00, 0x00, 0x22, 0x60, 0xC7, 0x05] false =
      .bankConfig .plant (some { bank := 1, configured := true, volume := 1500, rated := 9000, tier := 2, serves := 1#8, refillStart := 4000, refillStop := 8800 }) := by decide

theorem test_frame_bank_report :
    decodeFrame .plant
      [0x0B, 0x42, 0x41, 0x4E, 0x4B, 0x5F, 0x52, 0x45, 0x50, 0x4F, 0x52, 0x54, 0x0D, 0x01, 0x00, 0x00, 0x00, 0x00, 0x00, 0x00, 0x11, 0x1C, 0xFF, 0xFF, 0xFF, 0xF4, 0x72, 0xE2] false =
      .bankReport .plant (some [{ bank := 0, pressure := 4380, temperature := -12 }]) := by decide

theorem test_frame_nozzle_on :
    decodeFrame (.disp .d0)
      [0x09, 0x4E, 0x4F, 0x5A, 0x5A, 0x4C, 0x45, 0x5F, 0x4F, 0x4E, 0x13, 0x00, 0x00, 0x07, 0xBC, 0x01, 0x00, 0x00, 0x00, 0x96, 0x01, 0x00, 0x00, 0x07, 0xD0, 0x01, 0x00, 0x00, 0x00, 0xFA, 0xB0, 0xC1] false =
      .nozzleOn (.disp .d0) (some { hosePressure := 1980, tankVolume := some 150, tankPressure := some 2000, tankTemperature := some 250 }) := by decide

theorem test_frame_report :
    decodeFrame (.disp .d3)
      [0x06, 0x52, 0x45, 0x50, 0x4F, 0x52, 0x54, 0x0A, 0x00, 0x00, 0x0C, 0xF8, 0xFF, 0xFF, 0xFE, 0xCF, 0x00, 0x00, 0xC5, 0x19] false =
      .report (.disp .d3) (some { hosePressure := 3320, hoseTemperature := -305, tankPressure := none, tankTemperature := none }) := by decide

theorem test_frame_cold_set :
    decodeFrame .plant
      [0x08, 0x43, 0x4F, 0x4C, 0x44, 0x5F, 0x53, 0x45, 0x54, 0x04, 0x00, 0x00, 0x61, 0xA8, 0xB1, 0x07] false =
      .coldSet .plant (some 25000) := by decide

theorem test_frame_lane_settings :
    decodeFrame .plant
      [0x0D, 0x4C, 0x41, 0x4E, 0x45, 0x5F, 0x53, 0x45, 0x54, 0x54, 0x49, 0x4E, 0x47, 0x53, 0x10, 0x00, 0x00, 0x03, 0x20, 0x00, 0x00, 0x02, 0x58, 0x00, 0x00, 0x00, 0xFA, 0x00, 0x00, 0x00, 0x14, 0x36, 0xD5] false =
      .laneSettings .plant (some { switchTime := 800, dpStart := 600, dpSwitch := 250, yieldTime := 20 }) := by decide

theorem test_frame_set_meter_factor :
    decodeFrame .plant
      [0x10, 0x53, 0x45, 0x54, 0x5F, 0x4D, 0x45, 0x54, 0x45, 0x52, 0x5F, 0x46, 0x41, 0x43, 0x54, 0x4F, 0x52, 0x08, 0x00, 0x00, 0x00, 0x01, 0x00, 0x00, 0x26, 0xC0, 0x71, 0x9D] false =
      .setMeterFactor .plant (some { disp := 1, factor := 9920 }) := by decide

theorem test_frame_authorize :
    decodeFrame .sales
      [0x09, 0x41, 0x55, 0x54, 0x48, 0x4F, 0x52, 0x49, 0x5A, 0x45, 0x1E, 0x00, 0x00, 0x00, 0x02, 0x01, 0x00, 0x00, 0x00, 0x4D, 0x00, 0x00, 0x00, 0x03, 0x00, 0x00, 0x00, 0x01, 0x00, 0x00, 0x75, 0x30, 0x00, 0x00, 0x02, 0x58, 0x00, 0x00, 0x00, 0x00, 0x05, 0x2D, 0x4F] false =
      .authorize .sales (some { disp := 2, kind := 1, account := 77, group := 3, line := 1, limit := 30000, expiry := 600, preset := none, vehicles := some 5 }) := by decide

theorem test_frame_revoke :
    decodeFrame .sales
      [0x06, 0x52, 0x45, 0x56, 0x4F, 0x4B, 0x45, 0x06, 0x01, 0x00, 0x00, 0x00, 0x03, 0x01, 0x37, 0x02] false =
      .revoke .sales (some { scope := 1, value := 3, mode := 1 }) := by decide

theorem test_frame_release :
    decodeFrame .sales
      [0x07, 0x52, 0x45, 0x4C, 0x45, 0x41, 0x53, 0x45, 0x04, 0x00, 0x00, 0x04, 0xB0, 0x36, 0x4A] false =
      .release .sales (some 1200) := by decide

theorem test_frame_set_severity :
    decodeFrame .plant
      [0x0C, 0x53, 0x45, 0x54, 0x5F, 0x53, 0x45, 0x56, 0x45, 0x52, 0x49, 0x54, 0x59, 0x02, 0x0A, 0x02, 0x43, 0x14] false =
      .setSeverity .plant (some { kind := 10, level := 2 }) := by decide

theorem test_frame_fetch_events :
    decodeFrame .sales
      [0x0C, 0x46, 0x45, 0x54, 0x43, 0x48, 0x5F, 0x45, 0x56, 0x45, 0x4E, 0x54, 0x53, 0x00, 0x20, 0x21] false =
      .fetchEvents .sales := by decide

theorem test_frame_set_time :
    decodeFrame .sales
      [0x08, 0x53, 0x45, 0x54, 0x5F, 0x54, 0x49, 0x4D, 0x45, 0x04, 0xFF, 0xFF, 0xFF, 0xFF, 0xD3, 0x9C] false =
      .setTime .sales (some 4294967295) := by decide

/-- R193, second check: a wrong check byte, a frame cut short, a name longer than 24. -/
theorem test_frame_bad :
    ([decodeFrame .plant [0x08, 0x43, 0x4F, 0x4C, 0x44, 0x5F, 0x53, 0x45, 0x54, 0x04, 0x00, 0x00, 0x61, 0xA8, 0xB1, 0x06] false,
      decodeFrame .plant [0x08, 0x43, 0x4F, 0x4C, 0x44, 0x5F, 0x53, 0x45, 0x54, 0x04, 0x00, 0x00, 0x61, 0xA8, 0xB1] false,
      decodeFrame .plant [0x08, 0x43, 0x4F, 0x4C, 0x44, 0x5F, 0x53, 0x45, 0x54, 0x04, 0x00, 0x00, 0x61, 0xA8, 0xB1, 0x07] true,
      decodeFrame .plant [0x19, 0x41] false] = List.replicate 4 (.badFrame .plant)) := by decide

/-- R193: no byte or a first byte of 0 is an empty frame; a name that is none of the catalogue's; a payload that is too long is
not in the form stated; filler after the check is ignored. -/
theorem test_frame_other :
    ([decodeFrame .sales [] false, decodeFrame .sales [0x00, 0x12] false,
      decodeFrame .plant [0x09, 0x43, 0x4F, 0x4C, 0x44, 0x5F, 0x53, 0x45, 0x54, 0x53, 0x04, 0x00, 0x00, 0x61, 0xA8, 0x1B, 0xA0] false,
      decodeFrame .plant [0x08, 0x43, 0x4F, 0x4C, 0x44, 0x5F, 0x53, 0x45, 0x54, 0x05, 0x00, 0x00, 0x61, 0xA8, 0x00, 0xF5, 0x5A] false,
      decodeFrame .plant [0x08, 0x43, 0x4F, 0x4C, 0x44, 0x5F, 0x53, 0x45, 0x54, 0x04, 0x00, 0x00, 0x61, 0xA8, 0xB1, 0x07, 0xFF] false] =
      [.emptyFrame .sales, .emptyFrame .sales, .unknownCommandName .plant, .coldSet .plant none, .coldSet .plant (some 25000)]) := by
  decide

/-- R192: the frame of an OK reply that carries the number 9920. -/
theorem test_reply_frame :
    Reply.frame (ok [.num 9920]) = [0x00, 0x00, 0x04, 0x00, 0x00, 0x26, 0xC0, 0x0D, 0xC4] := by decide

/-- R192: the CRC-16 of the nine digits "123456789" by this polynomial and initial value. -/
theorem test_crc : crc16 [0x31, 0x32, 0x33, 0x34, 0x35, 0x36, 0x37, 0x38, 0x39] = 0x29B1#16 := by decide

/-- The opcode table gives its rows no bits, so no word spells a command. -/
theorem test_no_table_words : decodeTableWord 32 0x12345678 = none := by decide

/-! ### The worked cases of R16 to R19 -/

/-- The tank in mid-fill, the reference densities, and the top, hot, cold and empty edges. -/
theorem test_density_worked_cases :
    densityAt referenceTable 6650 125 = 3906 ∧ referenceDensity referenceTable .h70 = 4020 ∧
    referenceDensity referenceTable .h35 = 2412 ∧ densityAt referenceTable 9000 200 = 4670 ∧
    densityAt referenceTable 4500 750 = 2615 ∧ densityAt referenceTable 2500 (-480) = 2175 ∧
    densityAt referenceTable 0 33 = 0 ∧ gasMass 3906 150 = 5859 := by decide

/-- R19: 971 on an H70 hose; 1619 is taken as 1500 on an H35 hose; no table, no state of charge. -/
theorem test_state_of_charge :
    stateOfCharge closing .d0 = some 971 ∧
    stateOfCharge (closing.modSess .d0 fun r => { r with hoseClass := some .h35 }) .d0 = some 1500 := by decide

/-- R14: the reference table passes. -/
theorem test_reference_table_passes : tableFailure referenceTable = none := by decide

/-- R57: 399 is band 4, 400 band 5, below 0 band 0, STALE band 5. -/
theorem test_ambient_bands :
    [(399, true), (400, true), (0, true), (-1, true), (99, true), (100, true), (150, false)].map
      (fun x : Int × Bool => ambientBand { temperature := x.1, time := 0, fresh := x.2, staleTimer := none }) =
    [4, 5, 1, 0, 1, 2, 5] := by decide

/-- R136 and R140: the worked budgets 4447, 2223 and 27272, and the amounts 4949 and 826 of 3669 g and 612 g at 1349. -/
theorem test_budgets_and_amounts :
    budgetOf 6000 1349 none = 4447 ∧ budgetOf 3000 1349 none = 2223 ∧ budgetOf 30000 1100 none = 27272 ∧
    budgetOf 6000 1349 (some 1000) = 1000 ∧ amountOf 3669 1349 = 4949 ∧ amountOf 612 1349 = 826 ∧
    billedAmount 4500 1349 6000 = 6000 ∧ cappedFlag 4500 1349 6000 = true := by decide

/-! ### Commands -/

/-- R2: an H35 bank with the values of B3 becomes IN_SERVICE and STALE from an ISOLATED one out of the isolation set. -/
theorem test_bank_config :
    holds (exec (.bankConfig .plant (some ⟨3, true, 6000, 5000, 1, 2#8, 3000, 4800⟩))
        (station.modBank .b3 fun e => { e with service := .isolated }))
      (fun t => (t.bank .b3).service == .inService && !(t.bank .b3).fresh && (t.bank .b3).servesH35 && !(t.bank .b3).servesH70) =
      true := by decide

/-- R4, R17: B0 at 4400 and 340: density 2743 and 109,720 g. -/
theorem test_bank_report :
    holds (exec (.bankReport .plant (some [⟨0, 4400, 340⟩])) station)
      (fun t => (t.bank .b0).density == 2743 && (t.bank .b0).inventory == 109720 && (t.bank .b0).staleTimer == some 5000) =
      true := by decide

/-- R7: bit 2 is bank 2. -/
theorem test_isolate_set :
    holds (exec (.isolateSet .plant (some 4#8)) station)
      (fun t => (t.bank .b2).service == .isolated && t.inv.isolation.get .b2 && (t.bank .b1).service == .inService) = true := by
  decide

/-- The worked fill, step 1: class A, claim 4608, budget 4447, B0 with 105,600 g; the reply names SWITCHING and entry 7. -/
theorem test_nozzle_on :
    holds (exec (.nozzleOn (.disp .d0) (some ⟨1980, some 150, some 2000, some 250⟩)) station)
      (fun t =>
        (t.sess .d0).claim == 4608 && (t.sess .d0).aprr == 1800 && (t.bank .b0).holder == some (.disp .d0) &&
        (t.sess .d0).bankUse == [⟨.b0, 0, 0, 105600⟩] && !(t.unit.get .d0).permit &&
        t.port.slots.get (.disp .d0) == ok [.byte 3, .num 7, .num 4447, .byte 0]) = true := by decide

/-- The worked fill, step 2: the permit comes with the completion of the first switch, 600 ms after the grant. -/
theorem test_switch_completion :
    holds (exec (.switchCompletion (.disp .d0)) switching)
      (fun t =>
        (t.sess .d0).phase == .flowing && (t.unit.get .d0).permit && (t.sess .d0).rampBaseline == 1980 &&
        (t.lane.valves.get .b0).get (.disp .d0)) = true := by decide

/-- The worked fill, step 3: at ramp clock 450 the ceiling is 4030; the reply is FLOWING, 4030, 612 g, 826 and SOC 551. -/
theorem test_report :
    holds (exec (.report (.disp .d0) (some ⟨3320, -350, some 3310, some 290⟩))
        (flowing.modSess .d0 fun r => { r with rampClock := 450, lastCeiling := 4000, pulses := 6120, mass := 612 }))
      (fun t => (t.sess .d0).lastCeiling == 4030 &&
        t.port.slots.get (.disp .d0) == ok [.byte 4, .present true, .num 4030, .num 612, .present true, .num 826, .present true, .num 551]) = true := by decide

/-- R65: the second strike in a row raises RAMP_OVER; a report at the ceiling is no strike. -/
theorem test_ramp_over :
    holds (exec (.report (.disp .d0) (some ⟨4075, -350, none, none⟩))
        (flowing.modSess .d0 fun r => { r with rampClock := 470, lastCeiling := 4060, strikes := 1 }))
      (fun t => (t.sess .d0).reason == some .rampOver && t.fault.locked.get .d0 && (t.sess .d0).lastCeiling == 4060) = true := by
  decide

/-- The worked fill, step 4: 190 is below ΔP_switch, so B0 is released and B1 granted at 2480 g; the permit stays. -/
theorem test_bank_switch :
    holds (exec (.bankReport .plant (some [⟨0, 4060, 200⟩]))
        (flowing.modSess .d0 fun r =>
          { r with hosePressure := 3870, pulses := 24800, mass := 2480, bankUse := [⟨.b0, 0, 2480, 105600⟩] }))
      (fun t =>
        (t.sess .d0).phase == .switching && (t.sess .d0).currentBank == some .b1 && (t.unit.get .d0).permit &&
        (t.sess .d0).bankUse == [⟨.b0, 0, 2480, 105600⟩, ⟨.b1, 2480, 0, 64965⟩] && (t.bank .b0).holder.isNone) = true := by decide

/-- The worked fill, step 6. -/
theorem test_stop_fill :
    holds (exec (.stopFill (.disp .d0)) flowing)
      (fun t =>
        (t.sess .d0).phase == .closing && (t.sess .d0).reason == some .stopRequest && !(t.unit.get .d0).permit &&
        (t.sess .d0).claim == 0 && (t.sess .d0).settleTimer == some 1500 && (t.bank .b0).holder.isNone) = true := by decide

/-- R117: pulses of 10000 to the kilogram; the tenth pulse makes a gram, credited to the last bank. -/
theorem test_meter_pulse :
    holds (exec (.meterPulse .d0) (flowing.modSess .d0 fun r => { r with pulses := 9 }))
      (fun t => (t.sess .d0).mass == 1 && (t.sess .d0).bankUse == [⟨.b0, 0, 1, 105600⟩] && (t.sess .d0).drawAcc == 200 &&
        (t.sess .d0).claim == 4607 && t.cold.reserve == 49999) = true := by decide

/-- R119: at K 10000 the threshold is 200: the pulse after 199 raises LEAK_FLOW, and the one after 198 does not. -/
theorem test_leak_flow :
    (let at' (n : Nat) : State := station.modMeter fun m => { m with unaccounted := m.unaccounted.set .d3 n }
     holds (exec (.meterPulse .d3) (at' 199)) (fun t => t.fault.locked.get .d3 && t.meter.unaccounted.get .d3 == 0) &&
     holds (exec (.meterPulse .d3) (at' 198)) (fun t => !t.fault.locked.get .d3 && t.meter.unaccounted.get .d3 == 199)) = true := by
  decide

/-- The worked fill, step 8: 4949 owed, not capped, SOC 971; the record commits at once into slot 0 as number 1. -/
theorem test_settle_expiry :
    holds (exec (.settleTimerExpiry .d0) closing)
      (fun t => t.log.op == .committing { source := .session .d0, record := .sale fillSale } 0 1 &&
        (t.sess .d0).phase == .commitWait) = true := by decide

/-- The worked fill, step 9. -/
theorem test_commit_completion :
    holds (exec .commitCompletion committing)
      (fun t => (t.sess .d0).phase == .idle && t.auth.entries == [] && (t.unit.get .d0).nozzleOn &&
        t.log.array == [(0, .sale fillSale)] && t.log.reserved == 0 && t.port.salesEvents.saleCommitted) = true := by decide

/-- R86: 7 g at load 1200 draw 8 kJ and leave 400 J. -/
theorem test_draw :
    (let t := drawMass .d0 7 flowing
     (t.sess .d0).drawAcc == 400 && (t.sess .d0).claim == 4600 && t.cold.reserve == 49992) = true := by decide

/-- R79: COLD_SET 3000 takes D1's 15,791 first, which sets its flag, passes over D2 and takes the rest from D0. -/
theorem test_cold_set :
    (let claim (d : Disp) (n k : Nat) (s : State) : State := s.modSess d fun r => { r with claim := n, stamp := some k }
     let s := claim .d0 4209 3 (claim .d2 0 4 (claim .d1 15791 5 (station.modCold fun c => { c with reserve := 20000 })))
     holds (exec (.coldSet .plant (some 3000)) s)
       (fun t => (t.sess .d0).claim == 3000 && (t.sess .d1).claim == 0 && (t.sess .d1).coldShortfall &&
         !(t.sess .d2).coldShortfall && !(t.sess .d0).coldShortfall)) = true := by decide

/-- R77: LOAD_ORDER and LIMIT_ORDER. -/
theorem test_cold_config :
    (holds (exec (.coldConfig .plant (some ⟨20000, 900, 1200, 700, -300, -200, -100⟩)) station)
       (fun t => t.port.slots.plant == refuseWith .badValue [.byte 1] && t.cold == station.cold) &&
     holds (exec (.coldConfig .plant (some ⟨20000, 1200, 900, 700, -100, -200, -50⟩)) station)
       (fun t => t.port.slots.plant == refuseWith .badValue [.byte 2])) = true := by decide

/-- R84: with 800 kJ at hand a car of 2223 g gets no class; with 1600 it is admitted in C with a claim of 1557. -/
theorem test_admission :
    (let s (reserve : Nat) : State :=
       (coldWaiting.modSess .d0 fun r => { r with vehicle := none, fillKind := some .nonComm, budget := 2223 }).modCold
         fun c => { c with chiller := { c.chiller with fresh := true, running := true, rate := 400 }, reserve := reserve }
     holds (exec .rechargeStep (s 400)) (fun t => (t.sess .d0).phase == .coldWait) &&
     holds (exec .rechargeStep (s 1200))
       (fun t => (t.sess .d0).classNow == some .c && (t.sess .d0).claim == 1557 && (t.sess .d0).aprr == 1000)) = true := by decide

/-- R97: B1, the only bank of tier 2 (after R97); with B1 held, B2 for its lower pressure. -/
theorem test_best_bank :
    (let s := station.modSess .d0 fun r =>
       { r with hoseClass := some .h70, hosePressure := 3320, bankUse := [⟨.b0, 0, 0, 0⟩] }
     bestBank s .d0 == some .b1 &&
     bestBank (s.modBank .b1 fun e => { e with holder := some (.disp .d1) }) .d0 == some .b2) = true := by decide

/-- R95: 50 ms is out of range, and equal margins are refused. -/
theorem test_lane_settings :
    (holds (exec (.laneSettings .plant (some ⟨800, 600, 250, 20⟩)) station)
       (fun t => t.lane.settings == ⟨800, 600, 250, 20⟩) &&
     holds (exec (.laneSettings .plant (some ⟨800, 300, 300, 20⟩)) station)
       (fun t => t.port.slots.plant == refuse .badValue && t.lane == station.lane)) = true := by decide

/-- R105: the stuck valve faults the bank, and its session asks for another. -/
theorem test_valve_report :
    holds (exec (.valveReport .plant (some ⟨0, 0⟩)) flowing)
      (fun t => (t.bank .b0).service == .fault && (t.sess .d0).currentBank == some .b1 &&
        t.fault.firstSevere.map (·.consumer) == some (some (.disp .d0))) = true := by decide

/-- R110: the waiter is due, the compressor yields B1 to it, and the run is deferred. -/
theorem test_yield :
    holds (exec (.yieldTimerExpiry .d0) bankWaiting)
      (fun t => (t.bank .b1).holder == some (.disp .d0) && t.lane.deferred == [⟨.b1, 3⟩] &&
        t.lane.refill.outcome == some ⟨.b1, .yielded⟩ && t.port.plantEvents.refillSuspended) = true := by decide

/-- R125: the example of SET_METER_FACTOR on D1; the window goes from 3 to 2 (R124). -/
theorem test_set_meter_factor :
    holds (exec (.setMeterFactor .plant (some ⟨1, 9920⟩)) (station.modMeter fun m => { m with metrology := 17, window := 3 }))
      (fun t => t.meter.factor.get .d1 == 9920 && t.meter.metrology == 18 && t.meter.window == 2 &&
        t.port.slots.plant == ok [.num 1, .num 10000, .num 9920, .num 18]) = true := by decide

/-- R123: the switch asserted opens the window at 4. -/
theorem test_cal_unlock :
    holds (exec (.calUnlock .plant) (station.modMeter fun m => { m with calSwitch := true })) (fun t => t.meter.window == 4) = true := by
  decide

/-- R133: entry 8 for D1, price 1349 frozen, and AUTH_READY on D1's port. -/
theorem test_authorize :
    holds (exec (.authorize .sales (some ⟨1, 0, 5, 0, 1, 3000, 60, none, none⟩)) station)
      (fun t => t.port.slots.sales == ok [.num 8, .num 1349, .num 2223] && (t.port.dispEvents.get .d1).authReady &&
        t.auth.entries.map (·.number) == [7, 8]) = true := by decide

/-- R135: after 65535 comes 1. -/
theorem test_number_wraps : nextNumber { station.auth with lastNumber := 65535 } = 1 := by decide

/-- R137: cancelled without an event. -/
theorem test_cancel_auth :
    holds (exec (.cancelAuth .sales (some 7)) station) (fun t => t.auth.entries == [] && !t.port.attention.sales) = true := by
  decide

/-- R146: IMMEDIATE ends the fill with REVOKED. -/
theorem test_revoke :
    holds (exec (.revoke .sales (some ⟨0, 0, 1⟩)) flowing)
      (fun t => (t.sess .d0).reason == some .revoked && (t.sess .d0).phase == .closing &&
        t.auth.revocation.map (·.outstanding.get .d0) == some true) = true := by decide

/-- R163: the record at the cursor, once. -/
theorem test_export_next :
    holds (exec (.exportNext .sales)
        (station.modLog fun l =>
          { l with array := [(0, .sale fillSale)], view := some ⟨2047, some 1, some 1, 1⟩, stream := true }))
      (fun t => t.log.delivered == 1 && t.log.cursor == 2 && t.log.stream &&
        t.port.slots.sales == ok [.raw (LogRecord.sale fillSale).bytes]) = true := by decide

/-- R159, R160: 96 bytes, of type SALE and CALIBRATION. -/
theorem test_record_sizes :
    (LogRecord.sale fillSale).bytes.length = 96 ∧
    (LogRecord.cal ⟨.d1, 4, 9, 77, 10000, 9920, 18, false⟩).bytes.length = 96 := by decide

/-- R167, R183: the scan of a new part finds the marker invalid. -/
theorem test_scan_of_new_part :
    holds (exec .scanCompletion State.reset)
      (fun t => t.fault.mode == .shutdown && t.log.retained.marker && t.log.view == some ⟨2048, none, none, 0⟩) = true := by decide

/-- R172: RAMP_OVER (code 6) cannot stand below STOP. -/
theorem test_set_severity :
    holds (exec (.setSeverity .plant (some ⟨6, 0⟩)) station)
      (fun t => t.fault.severity.rampOver == .stop && t.port.slots.plant == ok [.byte 6, .byte 1]) = true := by
  decide

/-- R187, R185: the ESD input ends the fill and closes the station. -/
theorem test_esd_trip :
    holds (exec (.esdInputChange true) flowing)
      (fun t => t.fault.mode == .shutdown && (t.sess .d0).reason == some .shutdown && !(t.unit.get .d0).permit &&
        t.lane.valves == .same (.same false)) = true := by decide

/-- R196: the set is returned and emptied. -/
theorem test_fetch_events :
    holds (exec (.fetchEvents .plant) (addPlantEvent .modeChanged station))
      (fun t => t.port.slots.plant == ok [.byte 16] && !t.port.attention.plant && eventCode .plant t == 0) = true := by decide

/-- R193: a command of the plant on the sales port. -/
theorem test_wrong_port :
    holds (exec (.restart .sales) station) (fun t => t.port.slots.sales == refuse .wrongPort && t.fault == station.fault) = true := by
  decide

/-- R54, R181: a warm reset in the middle of a fill leaves the slot and the severe context behind, in STARTING. -/
theorem test_warm_reset :
    holds (exec .warmReset flowing)
      (fun t => t.fault.mode == .starting && (t.sess .d0).phase == .idle && t.log.retained == flowing.log.retained &&
        t.fault.esdArmed && t.log.view.isNone && !(t.unit.get .d0).permit) = true := by decide

/-! ### The free count and the stream mode -/

/-- R154, R155: with one number left and one reservation, the start of the commit leaves the free count at 0. -/
theorem test_commit_start_keeps_free_count :
    (let s := closing.modLog fun l => { l with view := some { erased := 992, oldest := some 4294966239, newest := some 4294967294, writePos := 1056 } }
     freeSlots s = 0 ∧ holds (exec (.settleTimerExpiry .d0) s) (fun t => t.log.op != .idle && freeSlots t == 0) = true) := by decide

/-- R162, R163: a number out of bounds keeps stream mode on; a payload out of form turns it off. -/
theorem test_export_start_and_stream :
    (let s := station.modLog fun l => { l with stream := true }
     holds (exec (.exportStart .sales (some (some 2))) s) (fun t => t.log.stream) = true ∧
     holds (exec (.exportStart .sales none) s) (fun t => !t.log.stream && t.port.slots.sales.status == .badValue) = true) := by decide

/-! ### Witnesses: for each statement with hypotheses, states and operands that meet them, clause by clause, at the ends of the
ranges -/

/-- A revocation in progress. -/
def withRevocation (s : State) : State :=
  s.modAuth fun a => { a with revocation := some { mode := .drain, scope := .all, outstanding := .same true } }

theorem witness_StepRunsFrontCommand :
    ({ flowing with pending := [.rechargeStep, .powerLoss] } : State).pending = .rechargeStep :: [.powerLoss] := rfl

theorem witness_IdleStepCountsTimersDown : flowing.pending = [] ∧ flowing.powered = true := by decide

theorem witness_WrongPortOrPayloadRefused :
    requestPort (.restart .sales) = some (.sales, onPlant) ∧ onPlant .sales = false ∧ station.powered = true ∧
    requestPort (.coldSet .plant none) = some (.plant, onPlant) ∧ onPlant .plant = true ∧
    (Instr.coldSet .plant none).framed = none ∧ ∀ d n, Instr.coldSet .plant none ≠ .readSession (.disp d) (some n) :=
  ⟨rfl, rfl, rfl, rfl, rfl, rfl, fun _ _ => nofun⟩

theorem witness_RefusedRequestChangesNothing :
    requestPort (.coldSet .plant (some 4000001)) = some (.plant, onPlant) ∧
    (∀ q, Instr.coldSet .plant (some 4000001) ≠ .tableEnd q) ∧ station.powered = true ∧
    ∃ t, exec (.coldSet .plant (some 4000001)) station = .next t ∧ (t.port.slots.get .plant).status ≠ .ok :=
  ⟨rfl, fun _ => nofun, rfl, _, rfl, by decide⟩

theorem witness_ModeChangeAddsEvents :
    ∃ t, exec (.esdInputChange true) flowing = .next t ∧ t.fault.mode ≠ flowing.fault.mode := ⟨_, rfl, by decide⟩

theorem witness_PortInterfaceCommands_frames :
    station.powered = true ∧ station.log.stream = false ∧ station.fault.severity.frameError = .note ∧
    (let s := station.modLog fun l => { l with stream := true }
     s.powered = true ∧ s.log.stream = true ∧ Port.plant ≠ .sales) := by decide

theorem witness_BankConfigDescribesBank :
    station.powered = true ∧ 5 < 6 ∧ Bank.ofNat? 0 = some .b0 ∧ Bank.ofNat? 5 = some .b5 ∧
    (station.bank .b0).service = .inService ∧ ((station.modBank .b5 fun e => { e with service := .fault }).bank .b5).service = .fault ∧
    (flowing.bank .b0).holder ≠ none ∧
    (let s := station.modBank .b0 fun e => { e with service := .isolated }
     (s.bank .b0).service = .isolated ∧ (s.bank .b0).holder = none) ∧
    (State.reset.bank .b5).service = .unconfigured ∧ (State.reset.bank .b5).holder = none ∧
    -- the least and the greatest values that fit, and values that do not
    (1 ≤ 1 ∧ 1 ≤ 20000 ∧ 1000 ≤ 1000 ∧ 1000 ≤ 9000 ∧ 1 ≤ 1 ∧ 1 ≤ 3 ∧ 1 ≤ (1#8).toNat ∧ (1#8).toNat ≤ 3 ∧ 0 ≤ 8999 ∧ 0 < 1 ∧ 1 ≤ 1000) ∧
    (20000 ≤ 20000 ∧ 9000 ≤ 9000 ∧ 3 ≤ 3 ∧ (3#8).toNat ≤ 3 ∧ 8999 ≤ 8999 ∧ 8999 < 9000) ∧ ¬ (1 ≤ (0#8).toNat) ∧
    ¬ (20001 ≤ 20000) := by decide

theorem witness_BankReportTakesReadings :
    station.powered = true ∧
    (let rs : List BankReading := (List.range 6).map fun n => ⟨n, 9001, 1001⟩
     rs ≠ [] ∧ rs.length ≤ 6 ∧ (∀ r ∈ rs, r.bank ≤ 5) ∧ (rs.map (·.bank)).Nodup) ∧
    (let rs : List BankReading := [⟨5, 0, -501⟩]
     rs ≠ [] ∧ rs.length ≤ 6 ∧ (∀ r ∈ rs, r.bank ≤ 5) ∧ (rs.map (·.bank)).Nodup) ∧
    ¬ (([] : List BankReading) ≠ []) ∧ ¬ ((([⟨1, 0, 0⟩, ⟨1, 1, 0⟩] : List BankReading).map (·.bank)).Nodup) ∧
    Bank.ofNat? 5 = some .b5 ∧ (station.bank .b5).service ≠ .unconfigured ∧ station.inv.table.state = .valid ∧
    State.reset.inv.table.state ≠ .valid ∧ (State.reset.bank .b0).service = .unconfigured ∧
    -- values at and past the ends of their ranges, of a bank, with a counter of the kind and each severity
    (let out (r : BankReading) : Bool := decide (9000 < r.pressure) || decide (r.temperature < -500) || decide (1000 < r.temperature)
     let rs : List BankReading := [⟨0, 9000, 1000⟩, ⟨1, 9001, 0⟩, ⟨2, 0, -501⟩]
     let counting := station.modFault fun f =>
       { f with counters := f.counters.set 0 { sel := some .sensorRange, value := 65534 } }
     rs.find? out = some ⟨1, 9001, 0⟩ ∧ (rs.filter out).length = 2 ∧ Bank.ofNat? 1 = some .b1 ∧
     (station.bank .b1).service ≠ .unconfigured ∧ counting.powered = true ∧
     counting.fault.counters[0]? = some { sel := some .sensorRange, value := 65534 } ∧
     station.fault.severity.sensorRange = .note ∧ station.fault.firstNote = none ∧ station.fault.firstSevere = none ∧
     (recordFault .bankStale .station none station).fault.firstNote ≠ none ∧
     (let s := station.modFault fun f => { f with severity := f.severity.set .sensorRange .stop }
      s.powered = true ∧ s.fault.severity.sensorRange ≠ .note ∧ s.fault.firstSevere = none ∧
      (recordFault .sensorRange .station none s).fault.firstSevere ≠ none)) := by decide

/-- Two entries out of range of three: both are counted, and the first of them is captured. -/
theorem test_bank_report_out_of_range :
    holds (exec (.bankReport .plant (some [⟨0, 9000, 1000⟩, ⟨2, 9001, 0⟩, ⟨1, 0, -501⟩]))
      (station.modFault fun f => { f with counters := f.counters.set 0 { sel := some .sensorRange, value := 7 } })) (fun t =>
        t.fault.counters[0]? == some { sel := some .sensorRange, value := 9 } &&
        t.fault.firstNote.map (·.site) == some (.bank .b2) && t.fault.nextNote.sensorRange) = true := by decide

/-- A run at its stop pressure, a session that loses its lane with a failing balance check, and a bank that joins the queue. -/
theorem witness_BankReportReachesLanes :
    (let fits (rs : List BankReading) : Prop :=
       rs ≠ [] ∧ rs.length ≤ 6 ∧ (rs.map (·.bank)).Nodup ∧
       ∀ r ∈ rs, r.bank ≤ 5 ∧ r.pressure ≤ 9000 ∧ -500 ≤ r.temperature ∧ r.temperature ≤ 1000
     fits [⟨1, 9000, 1000⟩] ∧ fits [⟨0, 1999, -500⟩, ⟨5, 9000, 0⟩]) ∧
    (bankWaiting.powered = true ∧ lanesLawful bankWaiting = true ∧ sessionsLawful bankWaiting = true ∧
     bankWaiting.fault.severity.balanceMismatch = .note ∧ bankWaiting.lane.refill.bank = some .b1 ∧
     (bankWaiting.bank .b1).refillStop ≤ 9000) ∧
    (let s := flowing.modSess .d0 fun r =>
       { r with bankUse := [{ bank := .b0, massAtGrant := 0, drawn := 500, inventoryAtGrant := 150000 }] }
     lanesLawful s = true ∧ sessionsLawful s = true ∧ (s.sess .d0).phase = .flowing ∧ (s.sess .d0).currentBank = some .b0 ∧
     1999 < (s.sess .d0).hosePressure + s.lane.settings.dpSwitch ∧ ((s.sess .d0).bankUse.any fun x => x.bank == .b0) = true ∧
     holds (exec (.bankReport .plant (some [⟨0, 1999, 150⟩])) s) (fun t =>
       decide (200 + 500 / 50 + (t.bank .b0).inventory + 500 < 150000)) = true ∧ s.fault.firstNote = none) ∧
    (let s := station.modInv fun i => { i with compressor := { i.compressor with state := .available } }
     lanesLawful s = true ∧ sessionsLawful s = true ∧ (s.bank .b0).service = .inService ∧ (s.bank .b0).holder = none ∧
     1999 < (s.bank .b0).refillStart ∧ s.lane.refillQueue = [] ∧ s.lane.deferred = [] ∧ s.lane.waitList = [] ∧
     s.fault.mode ≠ .shutdown ∧ s.lane.refill.state = .none ∧ s.lane.refill.bank = none ∧ (s.bank .b0).fresh = true ∧
     (s.sess .d0).phase ≠ .flowing) ∧
    station.inv.compressor.state ≠ .available := by decide

theorem witness_IsolationAndClearBank :
    station.powered = true ∧ (64#8).getLsbD 6 = true ∧ (128#8).getLsbD 7 = true ∧ (63#8).getLsbD 6 = false ∧
    (63#8).getLsbD 7 = false ∧ lanesLawful flowing = true ∧ sessionsLawful flowing = true ∧
    flowing.fault.severity.balanceMismatch = .note ∧ flowing.powered = true ∧ (flowing.bank .b0).service = .inService ∧
    Bank.ofNat? 0 = some .b0 ∧ (station.bank .b0).service ≠ .fault ∧
    ((station.modBank .b5 fun e => { e with service := .fault }).bank .b5).service = .fault := by decide

theorem witness_GasTableLoad :
    (flowing.powered = true ∧ (flowing.sess .d0).phase ≠ .idle) ∧
    ((holding .b1 .compressor true station).bank .b1).holder = some .compressor ∧
    ((∀ d, (station.sess d).phase = .idle) ∧ ∀ b, (station.bank b).holder ≠ some .compressor) ∧
    (let t : GasTable := { referenceTable with state := .loading }
     t.state = .loading ∧ tableFailure t = none ∧ station.inv.table.state ≠ .loading ∧
     tableFailure { GasTable.reset with state := .loading } ≠ none) ∧
    (5 ≤ 5 ∧ (List.replicate 10 60000).length = 10 ∧ ∀ x ∈ List.replicate 10 60000, x ≤ 60000) ∧ ¬ (6 ≤ 5) :=
  ⟨by decide, by decide, ⟨by intro d; cases d <;> decide, by intro b; cases b <;> decide⟩, by decide, by decide, by decide⟩

/-- The reference table passes R14, in the form the statements use. -/
theorem witness_DensityFollowsTable : referenceTable.passes := by
  refine ⟨?_, by decide, by decide, by decide, by decide, by decide⟩
  intro r h
  have : r = 0 ∨ r = 1 ∨ r = 2 ∨ r = 3 ∨ r = 4 ∨ r = 5 := by omega
  rcases this with rfl | rfl | rfl | rfl | rfl | rfl <;> exact ⟨_, rfl, rfl⟩

theorem witness_AmbientAndCompressorReports :
    station.powered = true ∧ (-500 : Int) ≤ -500 ∧ (-500 : Int) ≤ 1000 ∧ (-501 : Int) < -500 ∧ (1000 : Int) < 1001 ∧
    compressorStateOf 0 = some .available ∧ compressorStateOf 1 = some .running ∧ compressorStateOf 2 = some .fault ∧
    station.inv.compressor.state ≠ .available ∧ station.inv.compressor.state ≠ .fault ∧ station.lane.refill.state = .none ∧
    bankWaiting.inv.compressor.state ≠ .fault ∧ bankWaiting.lane.refill.state ≠ .none ∧
    bankWaiting.lane.refill.bank = some .b1 ∧ bankWaiting.fault.severity.compressorFault ≠ .shutdown ∧ 2 < 3 ∧
    bankWaiting.lane.refill.state = .running ∧ bankWaiting.fault.mode = .run ∧
    (bankWaiting.modFault fun f => { f with severity := f.severity.set .compressorFault .shutdown }).fault.severity.compressorFault =
      .shutdown := by decide

theorem witness_ReadsReturnTheirValues :
    station.powered = true ∧ onPlantOrSales .plant = true ∧ onPlantOrSales .sales = true ∧ findEntry station 7 = some entry7 ∧
    findEntry station 8 = none ∧ Disp.ofNat? 0 = some .d0 ∧ Disp.ofNat? 3 = some .d3 ∧ 3 < 4 := by decide

theorem witness_TimersAndSwitchesComplete_staleness :
    station.powered = true ∧ (State.reset.bank .b0).staleTimer = none ∧ lanesLawful station = true ∧
    (station.bank .b0).staleTimer ≠ none ∧ (station.bank .b0).service = .inService ∧
    station.fault.severity.bankStale = .note ∧
    (let s := station.modBank .b0 fun e => { e with service := .isolated }
     (s.bank .b0).staleTimer ≠ none ∧ (s.bank .b0).service ≠ .inService ∧ lanesLawful s = true) ∧
    station.inv.ambient.staleTimer = none ∧ station.cold.chiller.staleTimer = none ∧
    (station.modInv fun i => { i with ambient := { i.ambient with staleTimer := some 1 } }).inv.ambient.staleTimer ≠ none ∧
    (station.modCold fun c => { c with chiller := { c.chiller with staleTimer := some 1 } }).cold.chiller.staleTimer ≠ none := by
  decide

/-- D0 passes the checks of NOZZLE_ON up to the third. -/
abbrev NozzleReady (s : State) : Prop :=
  s.powered = true ∧ (s.sess .d0).phase = .idle ∧ (s.unit.get .d0).nozzleOn = false ∧ s.fault.mode = .run ∧
  s.fault.esdArmed = true ∧ s.inv.table.state = .valid ∧ (s.unit.get .d0).hoseClass = some .h70 ∧
  (s.profile .h70).valid = true

/-- Each check of NOZZLE_ON fails alone, at hose pressures 49, 50, 6999 and 7000. -/
theorem witness_NozzleOnChecksInOrder :
    (flowing.powered = true ∧ (flowing.sess .d0).phase ≠ .idle) ∧
    (NozzleReady station ∧ station.fault.locked.get .d0 = false ∧ (station.unit.get .d0).held = false ∧
     pendingEntry station .d0 ≠ none ∧ 50 ≤ 50 ∧ 50 < nominalPressure .h70 ∧ 6999 < nominalPressure .h70 ∧
     ¬ (50 ≤ 49) ∧ ¬ (7000 < nominalPressure .h70) ∧ State.reset.fault.mode ≠ .run ∧
     (let s := station.modFault fun f => { f with locked := .same true }
      NozzleReady s ∧ s.fault.locked.get .d0 = true) ∧
     (let s := station.modUnit .d0 fun u => { u with held := true }
      NozzleReady s ∧ s.fault.locked.get .d0 = false ∧ (s.unit.get .d0).held = true) ∧
     (let s := station.modAuth fun a => { a with entries := [] }
      NozzleReady s ∧ (s.unit.get .d0).held = false ∧ pendingEntry s .d0 = none) ∧
     (let s := station.modLog fun l => { l with reserved := 2048 }
      NozzleReady s ∧ s.fault.locked.get .d0 = false ∧ (s.unit.get .d0).held = false ∧ pendingEntry s .d0 ≠ none ∧ freeSlots s = 0)) := by
  decide

/-- The worked fill of R31, and a station without cold. -/
theorem witness_NozzleOnStartsSession :
    (let a : NozzleOnArgs := ⟨1980, some 150, some 2000, some 250⟩
     let u := acceptSession .d0 entry7 a station
     station.powered = true ∧ nozzleRefusal station .d0 1980 = none ∧ pendingEntry station .d0 = some entry7 ∧
     station.cold.queue = [] ∧ chooseClass u .d0 = some .a ∧
     bestBank (enterWait .d0 .laneWait 60000 (admitAs .d0 .a u)) .d0 = some .b0) ∧
    -- every bank held, and every bank STALE
    (let a : NozzleOnArgs := ⟨1980, some 150, some 9001, some 250⟩
     let s := Bank.all.foldl (fun s b => s.modBank b fun e => { e with holder := some .compressor })
       (station.modMeter fun m => { m with calSwitch := true })
     let q := enterWait .d0 .laneWait 60000 (admitAs .d0 .a (acceptSession .d0 entry7 a s))
     nozzleRefusal s .d0 1980 = none ∧ s.meter.calSwitch = true ∧ tankOut (some 9001) (some 250) = true ∧
     chooseClass (acceptSession .d0 entry7 a s) .d0 = some .a ∧ bestBank q .d0 = none ∧ anyEligible q .d0 = true) ∧
    (let a : NozzleOnArgs := ⟨1980, none, none, none⟩
     let s := Bank.all.foldl (fun s b => s.modBank b fun e => { e with fresh := false }) station
     let q := enterWait .d0 .laneWait 60000 (admitAs .d0 .a (acceptSession .d0 entry7 a s))
     nozzleRefusal s .d0 1980 = none ∧ chooseClass (acceptSession .d0 entry7 a s) .d0 = some .a ∧ authLawful s = true ∧
     bestBank q .d0 = none ∧ anyEligible q .d0 = false ∧ entry7.revokeOnClose = false) ∧
    (let s := station.modCold fun c => { c with reserve := 0 }
     nozzleRefusal s .d0 50 = none ∧ pendingEntry s .d0 = some entry7 ∧
     admitHead (acceptSession .d0 entry7 ⟨50, none, none, none⟩ s) = none) ∧
    -- the estimate: a tank that lacks mass, and a fill without one
    ((station.unit.get .d0).hoseClass = some .h70 ∧ station.inv.table.state = .valid ∧ station.inv.table.refH70.isSome = true ∧
     (vehicleOf station.port.clock ⟨1980, some 150, some 2000, some 250⟩).isSome = true ∧
     vehicleOf station.port.clock ⟨1980, some 150, some 2000, none⟩ = none ∧ authLawful station = true) := by decide

theorem witness_ReportStoresValues :
    station.powered = true ∧ (station.sess .d0).phase = .idle ∧ (some 3310).isSome ≠ (none : Option Int).isSome ∧
    (let s := flowing.modSess .d0 fun r => { r with fillKind := some .nonComm, lastCeiling := 4000, rampClock := 450 }
     let r := s.sess .d0
     r.phase = .flowing ∧ r.fillKind = some .nonComm ∧ r.checkActive = false ∧ r.hoseClass = some .h70 ∧
     r.currentBank = some .b0 ∧ 4000 ≤ hoseLimit .h70 ∧ 4000 ≤ r.lastCeiling ∧
     4000 < (s.profile .h70).target (r.band.getD 0) ∧
     pressureTarget r.rampBaseline r.aprr r.rampClock ≤ 2330 + (s.profile .h70).dpLow ∧
     4000 + s.lane.settings.dpSwitch ≤ (s.bank .b0).pressure ∧ (s.lane.waitList.any fun w => w.disp == .d0) = false ∧
     2330 ≤ 9000 ∧ (-500 : Int) ≤ -500 ∧ (1000 : Int) ≤ 1000) ∧
    -- the COMM fill with tank data of 20.0 MPa at 84.9 °C
    (let v : Vehicle := { volume := 150, pressure := 2000, temperature := 849, time := 0 }
     (flowing.sess .d0).fillKind = some .comm ∧ tankOut (some 2000) (some 849) = false ∧ (849 : Int) < 850 ∧
     2330 ≤ (flowing.sess .d0).lastCeiling ∧ (flowing.sess .d0).checkActive = false ∧
     -- a value out of range, before CLOSING and after, at NOTE and above
     9000 < 9001 ∧ (1000 : Int) < 1001 ∧ flowing.fault.severity.sensorRange = .note ∧ flowing.fault.firstNote = none ∧
     (flowing.sess .d0).phase.active = true ∧ (closing.sess .d0).phase.active = false ∧ (closing.sess .d0).phase ≠ .idle ∧
     sessionsLawful closing = true ∧ (closing.fault.severity.set .sensorRange .stop).sensorRange ≠ .note ∧
     flowing.fault.firstSevere = none ∧
     stateOfCharge (flowing.modSess .d0 fun r => { r with vehicle := some v }) .d0 = some 328 ∧
     328 < (flowing.profile .h70).targetSoc) := by decide

/-- Each check of a REPORT is met by some report of the worked fill. -/
theorem witness_ReportChecksAct :
    (flowing.powered = true ∧ sessionsLawful flowing = true ∧ tankOut (some 2000) (some 850) = false ∧ tankOut none none = false ∧
     (flowing.sess .d0).phase = .flowing ∧ (flowing.sess .d0).hoseClass = some .h70 ∧ (closing.sess .d0).phase ≠ .idle ∧
     (closing.sess .d0).hoseClass = some .h70 ∧ sessionsLawful closing = true) ∧
    (hoseLimit .h70 < 8751 ∧ 8751 ≤ 9000 ∧ flowing.fault.severity.pressureLimit ≠ .note ∧
     (flowing.sess .d0).phase.active = true ∧ (closing.sess .d0).phase.active = false) ∧
    (2680 ≤ (flowing.sess .d0).lastCeiling ∧ (flowing.sess .d0).lastCeiling < 2681 ∧ 2681 ≤ hoseLimit .h70 ∧
     (flowing.sess .d0).strikes = 0 ∧ flowing.fault.severity.rampOver ≠ .note ∧
     (let s := flowing.modSess .d0 fun r => { r with strikes := 1 }
      sessionsLawful s = true ∧ (s.sess .d0).strikes ≠ 0)) ∧
    ((flowing.sess .d0).vehicle.isSome = true ∧ (850 : Int) ≤ 850 ∧ ¬ ((850 : Int) ≤ 849)) ∧
    (let s := flowing.modSess .d0 fun r => { r with tankLapsed := true, lastCeiling := 7000 }
     sessionsLawful s = true ∧ (s.sess .d0).fillKind = some .comm ∧ (s.sess .d0).tankLapsed = true ∧
     (s.profile .h70).target ((s.sess .d0).band.getD 0) ≤ 7000) ∧
    (let v : Vehicle := { volume := 150, pressure := 7000, temperature := 150, time := 0 }
     stateOfCharge (flowing.modSess .d0 fun r => { r with vehicle := some v }) .d0 = some 1000 ∧
     (flowing.profile .h70).targetSoc ≤ 1000) ∧
    (let s := flowing.modSess .d0 fun r => { r with rampClock := 600, lagStart := some 500 }
     let r := s.sess .d0
     sessionsLawful s = true ∧ 2680 + (s.profile .h70).dpLow < pressureTarget r.rampBaseline r.aprr r.rampClock ∧
     500 + 100 ≤ r.rampClock ∧ ¬ (501 + 100 ≤ r.rampClock)) ∧
    ((flowing.sess .d0).currentBank = some .b0 ∧ (flowing.bank .b0).pressure < 4200 + flowing.lane.settings.dpSwitch ∧
     flowing.fault.severity.balanceMismatch = .note ∧ ((flowing.sess .d0).bankUse.any fun x => x.bank == .b0) = true ∧
     (let at4200 (s : State) : State := s.modSess .d0 fun r => { r with hosePressure := 4200 }
      let others (f : BankEntry → BankEntry) : State := Bank.all.foldl (fun s b => if b = .b0 then s else s.modBank b f) flowing
      bestBank (at4200 flowing) .d0 = some .b1 ∧
      bestBank (at4200 (others fun e => { e with holder := some .compressor })) .d0 = none ∧
      anyEligible (at4200 (others fun e => { e with holder := some .compressor })) .d0 = true ∧
      anyEligible (at4200 (others fun e => { e with fresh := false })) .d0 = false)) ∧
    ((flowing.sess .d0).classNow = some .a ∧ limitOf flowing.cold.config .a = some (-300) ∧ (-300 : Int) < -299 ∧
     (let s := flowing.modSess .d0 fun r => { r with checkActive := true }
      sessionsLawful s = true ∧ (s.sess .d0).checkActive = true)) := by decide

theorem witness_StopAndNozzleOffEndSession :
    flowing.powered = true ∧ (flowing.sess .d0).phase.active = true ∧ (flowing.sess .d0).flowBegun = true ∧
    flowing.settleTime ≠ 0 ∧ ({ flowing with settleTime := 0 } : State).settleTime = 0 ∧
    (coldWaiting.sess .d0).phase.active = true ∧ (coldWaiting.sess .d0).flowBegun = false ∧ (coldWaiting.sess .d0).pulses = 0 ∧
    (∀ f ∈ coldWaiting.cold.queue, f = .d0) ∧ coldWaiting.fault.severity.balanceMismatch ≠ .shutdown ∧
    authLawful coldWaiting = true ∧ boundEntry coldWaiting .d0 = some { entry7 with bound := true, timer := none } ∧
    (flowing.sess .d0).currentBank = some .b0 ∧
    (closing.sess .d0).phase.active = false ∧ (closing.sess .d0).phase ≠ .idle ∧ (station.sess .d0).phase = .idle := by decide

theorem witness_DispenserSettings :
    station.powered = true ∧ 3 < 4 ∧ 1 < 2 ∧ 199 < 200 ∧ 5000 < 5001 ∧ Disp.ofNat? 0 = some .d0 ∧ Disp.ofNat? 3 = some .d3 ∧
    hoseClassOf 0 = some .h70 ∧ hoseClassOf 1 = some .h35 ∧ 200 ≤ 200 ∧ 5000 ≤ 5000 ∧ (flowing.sess .d0).phase ≠ .idle ∧
    (station.sess .d0).phase = .idle ∧ 15 < (16#8).toNat ∧ (15#8).toNat ≤ 15 ∧ (0#8).toNat ≤ 15 := by decide

theorem witness_TimersAndSwitchesComplete :
    (let r := flowing.sess .d0
     flowing.powered = true ∧ r.supervision ≠ none ∧ r.waitTimer = none ∧ r.graceTimer ≠ none ∧ r.exceedTimer = none ∧
     r.tankTimer = none ∧ r.phase = .flowing) ∧
    (let r := closing.sess .d0
     r.supervision = none ∧ r.graceTimer = none ∧ r.phase ≠ .flowing) ∧
    (let r := coldWaiting.sess .d0
     r.waitTimer ≠ none ∧ r.phase = .coldWait) ∧
    (let r := bankWaiting.sess .d0
     r.waitTimer ≠ none ∧ r.phase = .bankWait) ∧
    (let r := (coldWaiting.modSess .d0 fun r => { r with phase := .laneWait }).sess .d0
     r.waitTimer ≠ none ∧ r.phase = .laneWait) ∧
    (let s := flowing.modSess .d0 fun r => { r with exceedTimer := some 1, tankTimer := some 1 }
     (s.sess .d0).exceedTimer ≠ none ∧ (s.sess .d0).phase.active = true ∧ downgradeClass s .d0 = some .b ∧
     (s.sess .d0).tankTimer ≠ none) ∧
    (let s := flowing.modSess .d0 fun r => { r with exceedTimer := some 1, classNow := some .c }
     (s.sess .d0).exceedTimer ≠ none ∧ (s.sess .d0).phase.active = true ∧ downgradeClass s .d0 = none) := by decide

theorem witness_DrawAndDowngrade_downgrade :
    (flowing.sess .d0).hoseClass = some .h70 ∧ (flowing.sess .d0).band = some 5 ∧ (flowing.sess .d0).classNow = some .a ∧
    downgradeClass flowing .d0 = some .b ∧ coldClassCode .a < coldClassCode .b := by decide

/-- The commit starts at once, joins a queue of 7, or is held back by a queue of 8. -/
theorem witness_SettleExpiryOffersSale :
    (station.powered = true ∧ (station.sess .d0).phase ≠ .closing) ∧
    (closing.powered = true ∧ (closing.sess .d0).phase = .closing ∧ (closing.sess .d0).settleTimer ≠ none ∧
     boundEntry closing .d0 = some { entry7 with bound := true, timer := none } ∧ closing.log.op = .idle ∧
     closing.log.queue = [] ∧ closing.log.offers = [] ∧ 1 ≤ closing.log.reserved ∧
     closing.log.view = some { erased := 2048, oldest := none, newest := none, writePos := 0 }) ∧
    (let waiting : QueueEntry := { source := .calibration, record := .cal ⟨.d1, 0, 0, 77, 10000, 9920, 18, false⟩ }
     let s (n : Nat) : State := closing.modLog fun l => { l with op := .erasing 0, queue := List.replicate n waiting }
     (s 7).log.op ≠ .idle ∧ (s 7).log.queue.length < 8 ∧ 8 ≤ (s 8).log.queue.length ∧
     (boundEntry (s 8) .d0).isSome = true) := by decide

/-- The ranges of R55. -/
abbrev ProfileFits (h : HoseClass) (a : ProfileArgs) : Prop :=
  100 ≤ a.dpUp ∧ a.dpUp ≤ 1500 ∧ 100 ≤ a.dpLow ∧ a.dpLow ≤ 1500 ∧ 900 ≤ a.targetSoc ∧ a.targetSoc ≤ 1000 ∧
  1000 ≤ a.nominalMass ∧ a.nominalMass ≤ 100000 ∧ (∀ x ∈ a.cells, x ≤ 6000) ∧ ∀ x ∈ a.targets, 1000 ≤ x ∧ x ≤ hoseLimit h

theorem witness_ProfileLoadReplacesProfile :
    (station.powered = true ∧ hoseClassOf exampleH70.hoseClass = some .h70 ∧ hoseClassOf exampleH35.hoseClass = some .h35 ∧
     exampleH70.cells.length = 24 ∧ exampleH70.targets.length = 6 ∧ exampleH35.cells.length = 24 ∧ 1 < 2 ∧
     (flowing.sess .d0).hoseClass = some .h70 ∧ (flowing.sess .d0).phase ≠ .idle) ∧
    (∀ d, (station.sess d).hoseClass = some .h70 → (station.sess d).phase = .idle) ∧
    (ProfileFits .h70 exampleH70 ∧ (∀ j < 6, exampleH70.cells.getD (4 * j + 3) 0 = 0) ∧
     ProfileFits .h70
       { exampleH70 with
         dpUp := 100, dpLow := 1500, targetSoc := 900, nominalMass := 100000, targets := [1000, 8750, 1000, 8750, 1000, 8750] } ∧
     ¬ ProfileFits .h70 { exampleH70 with dpUp := 99 } ∧ ¬ ProfileFits .h35 { exampleH35 with targets := exampleH70.targets } ∧
     ProfileFits .h35 exampleH35 ∧
     (let a := { exampleH70 with cells := exampleH70.cells.set 11 500 }
      ProfileFits .h70 a ∧ 2 < 6 ∧ a.cells.getD (4 * 2 + 3) 0 ≠ 0 ∧ ∀ k < 2, a.cells.getD (4 * k + 3) 0 = 0)) :=
  ⟨by decide, by intro d; cases d <;> decide, by decide⟩

/-- The ranges of R75. -/
abbrev ColdFits (a : ColdConfigArgs) : Prop :=
  a.capacity ≤ 4000000 ∧ a.loadA ≤ 3000 ∧ a.loadB ≤ 3000 ∧ a.loadC ≤ 3000 ∧ -500 ≤ a.limitA ∧ a.limitA ≤ 0 ∧
  -500 ≤ a.limitB ∧ a.limitB ≤ 0 ∧ -500 ≤ a.limitC ∧ a.limitC ≤ 0

theorem witness_ColdReserveCommands :
    station.powered = true ∧
    ((let a : ColdConfigArgs := ⟨4000000, 3000, 3000, 3000, -500, -1, 0⟩
      ColdFits a ∧ a.loadC ≤ a.loadB ∧ a.loadB ≤ a.loadA ∧ a.limitA < a.limitB ∧ a.limitB < a.limitC) ∧
     (let a : ColdConfigArgs := ⟨20000, 900, 1200, 700, -300, -200, -100⟩
      ColdFits a ∧ a.loadA < a.loadB) ∧
     (let a : ColdConfigArgs := ⟨0, 0, 0, 0, -100, -100, 0⟩
      ColdFits a ∧ a.loadC ≤ a.loadB ∧ a.loadB ≤ a.loadA ∧ a.limitB ≤ a.limitA) ∧
     ¬ ColdFits ⟨4000001, 0, 0, 0, -3, -2, -1⟩ ∧ ¬ ColdFits ⟨0, 0, 0, 0, -501, -2, 1⟩) ∧
    4000000 < 4000001 ∧ 4000000 ≤ 4000000 ∧ 5000 ≤ 5000 ∧ 5000 < 5001 ∧
    (let s := station.modCold fun c => { c with chiller := { c.chiller with fresh := true, running := true } }
     s.cold.chiller.fresh = true ∧ s.cold.chiller.running = true) ∧ station.cold.chiller.fresh = false := by decide

theorem witness_TrimLowersNewestClaimsFirst :
    (let claim (d : Disp) (n k : Nat) (s : State) : State := s.modSess d fun r => { r with claim := n, stamp := some k }
     let s := claim .d0 4209 3 (claim .d1 15791 5 (station.modCold fun c => { c with reserve := 3000 }))
     (s.sess .d0).stamp.getD 0 < (s.sess .d1).stamp.getD 0 ∧ ((trimClaims s).sess .d0).claim < (s.sess .d0).claim) := by decide

theorem witness_DrawAndDowngrade :
    (flowing.sess .d0).classNow = some .a ∧ loadOf flowing.cold.config .a ≠ 0 ∧ (flowing.sess .d0).phase.draws = true ∧
    ((flowing.sess .d0).drawAcc + 0 * 1200) / 1000 = 0 ∧ ((flowing.sess .d0).drawAcc + 1 * 1200) / 1000 ≠ 0 ∧
    ((flowing.sess .d0).drawAcc + 1 * 1200) / 1000 ≤ flowing.cold.reserve ∧ (flowing.sess .d0).phase.active = true ∧
    downgradeClass flowing .d0 = some .b ∧
    (let s := flowing.modCold fun c => { c with reserve := 0 }
     s.cold.reserve < ((s.sess .d0).drawAcc + 1 * 1200) / 1000) ∧
    (let s := closing.modCold fun c => { c with reserve := 0 }
     (s.sess .d0).classNow = some .a ∧ (s.sess .d0).phase.draws = true ∧ (s.sess .d0).phase.active = false ∧
     s.cold.reserve < ((s.sess .d0).drawAcc + 1 * 1200) / 1000) := by decide

theorem witness_BestBankByTierPressureNumber :
    (let s := station.modSess .d0 fun r => { r with hoseClass := some .h70, hosePressure := 3320 }
     bestOf s (Bank.all.filter fun b => eligible s .d0 b && bankFree s b) = some .b0 ∧ Bank.b1 ≠ .b0 ∧
     eligible s .d0 .b1 = true ∧ (s.bank .b1).holder = none ∧ s.fault.mode ≠ .shutdown ∧
     -- each bank's pressure at the start margin, and one short of it
     (let at' (n : Nat) : State := s.modBank .b0 fun e => { e with pressure := n }
      eligible (at' (3320 + s.lane.settings.dpStart)) .d0 .b0 = true ∧
      eligible (at' (3319 + s.lane.settings.dpStart)) .d0 .b0 = false)) ∧
    bestOf State.reset (Bank.all.filter fun b => eligible State.reset .d0 b && bankFree State.reset b) = none := by decide

theorem witness_LaneCommandsAndYield :
    station.powered = true ∧
    (100 ≤ 100 ∧ 5000 ≤ 5000 ∧ 2000 ≤ 2000 ∧ 120 ≤ 120 ∧ 1 ≤ 1 ∧ 100 < 101 ∧ ¬ (300 < 300) ∧ ¬ (100 ≤ 99)) ∧ 5 < 6 ∧
    Bank.ofNat? 0 = some .b0 ∧ station.lane.refill.state = .none ∧ Bank.ofNat? 1 = some .b1 ∧
    bankWaiting.lane.refill.state ≠ .none ∧ bankWaiting.lane.refill.bank = some .b1 ∧
    bankWaiting.inv.compressor.state ≠ .available ∧ 4 < 5 ∧ consumerOf 4 = some .compressor ∧
    consumerOf 0 = some (.disp .d0) ∧ flowing.fault.severity.valveFault = .stop ∧ lanesLawful flowing = true ∧
    sessionsLawful flowing = true ∧ flowing.fault.firstSevere = none ∧
    (station.lane.waitList.any fun w => w.disp == .d0 && w.yieldTimer.isSome) = false ∧
    (bankWaiting.lane.waitList.any fun w => w.disp == .d0 && w.yieldTimer.isSome) = true ∧
    bankWaiting.lane.waitList = [{ disp := .d0, joined := 0, yieldTimer := some 10000, due := false, waited := 0 }] ∧
    bankWaiting.fault.mode ≠ .shutdown ∧ bestBank bankWaiting .d0 = none ∧ eligible bankWaiting .d0 .b1 = true ∧
    bankWaiting.lane.refill.state = .running := by decide

theorem witness_TimersAndSwitchesComplete_switches :
    (station.powered = true ∧ (station.unit.get .d0).switchTimer = none ∧ station.lane.refill.switchTimer = none) ∧
    ((switching.unit.get .d0).switchTimer ≠ none ∧ (switching.sess .d0).currentBank = some .b0 ∧
     (switching.sess .d0).hoseClass = some .h70 ∧ (switching.sess .d0).phase = .switching ∧
     (switching.sess .d0).flowBegun = false) ∧
    (let s := switching.modSess .d0 fun r => { r with flowBegun := true }
     (s.unit.get .d0).switchTimer ≠ none ∧ (s.sess .d0).flowBegun = true) ∧
    (let s := bankWaiting.modLane fun l => { l with refill := { l.refill with state := .switching, switchTimer := some 600 } }
     s.lane.refill.switchTimer ≠ none ∧ s.lane.refill.bank = some .b1) := by decide

theorem witness_MeterPulseIsCounted :
    (let s := flowing.modSess .d0 fun r => { r with pulses := 44469, mass := 4446 }
     let m := ((s.sess .d0).pulses + 1) * 1000 / (s.sess .d0).k
     s.powered = true ∧ (s.sess .d0).phase = .flowing ∧ (s.sess .d0).mass < m ∧ (s.sess .d0).phase ≠ .closing ∧
     (s.sess .d0).budget ≤ m ∧ (s.log.retained.slots.get .d0).isSome = true) ∧
    ((flowing.sess .d0).pulses + 1) * 1000 / (flowing.sess .d0).k < (flowing.sess .d0).budget ∧
    (station.sess .d0).phase = .idle ∧ station.meter.unaccounted.get .d0 + 1 < (station.meter.factor.get .d0 + 49) / 50 ∧
    (let s := station.modMeter fun m => { m with unaccounted := .same 199 }
     (s.meter.factor.get .d0 + 49) / 50 ≤ s.meter.unaccounted.get .d0 + 1) := by decide

theorem witness_CalUnlockOpensWindow :
    station.powered = true ∧ station.meter.calSwitch = false ∧
    (station.modMeter fun m => { m with calSwitch := true }).meter.calSwitch = true := by decide

theorem witness_CalibrationSwitchAndFactor :
    (station.powered = true ∧ station.meter.calSwitch = false ∧ (flowing.sess .d0).phase ≠ .idle ∧
     flowing.meter.calSwitch = false ∧ (station.modMeter fun m => { m with calSwitch := true }).meter.calSwitch = true ∧
     station.meter.window = 0) ∧
    (∀ d, (station.sess d).phase = .idle) ∧
    (let s := station.modMeter fun m => { m with window := 4 }
     s.meter.window ≠ 0 ∧ 3 < 4 ∧ 99 < 100 ∧ 100000 < 100001 ∧ Disp.ofNat? 3 = some .d3 ∧ 100 ≤ 100 ∧ 100000 ≤ 100000 ∧
     s.meter.metrology < 4294967295 ∧ (s.sess .d3).phase = .idle ∧ s.meter.change = none ∧ s.log.queue.length < 8 ∧
     1 ≤ freeSlots s ∧ s.log.op = .idle ∧ s.log.queue = [] ∧ s.log.offers = [] ∧
     s.log.view = some { erased := 2048, oldest := none, newest := none, writePos := 0 }) ∧
    (4294967295 ≤ (station.modMeter fun m => { m with metrology := 4294967295, window := 1 }).meter.metrology) ∧
    (let s := station.modLog fun l => { l with op := .erasing 3 }
     s.log.op ≠ .idle) ∧
    ¬ (1 ≤ freeSlots (station.modLog fun l => { l with reserved := 2048 })) :=
  ⟨by decide, by intro d; cases d <;> decide, by decide, by decide, by decide, by decide⟩

theorem witness_FactorChangesOnlyWithCounter :
    ∃ t, exec (.setMeterFactor .plant (some ⟨1, 9920⟩)) (station.modMeter fun m => { m with window := 3 }) = .next t ∧
      t.meter.metrology ≠ station.meter.metrology := ⟨_, rfl, by decide⟩

theorem witness_PriceLinesAndPendingEntries :
    station.powered = true ∧ 7 < 8 ∧ 0 < 1 ∧ 100000 < 100001 ∧ 7 ≤ 7 ∧ 1 ≤ 1 ∧ 100000 ≤ 100000 ∧
    station.auth.tariffs.getD 7 none = none := by decide

/-- The ranges of R133 (the preset and the vehicle count apart). -/
abbrev AuthorizeFits (kind : AuthKind) (a : AuthorizeArgs) : Prop :=
  a.account ≤ 4294967295 ∧ a.group ≤ 255 ∧ a.line ≤ 7 ∧ 1 ≤ a.limit ∧ a.limit ≤ 10000000 ∧ 10 ≤ a.expiry ∧ a.expiry ≤ 3600 ∧
  (kind = .single → a.vehicles = none) ∧ (kind = .fleetRun → 1 ≤ a.group)

theorem witness_AuthorizeMakesEntry :
    (let a : AuthorizeArgs := ⟨3, 1, 4294967295, 255, 1, 10000000, 3600, some 1000000, some 255⟩
     station.powered = true ∧ Disp.ofNat? a.disp = some .d3 ∧ authKindOf a.kind = some .fleetRun ∧ AuthorizeFits .fleetRun a ∧
     a.vehicles = some 255 ∧ a.preset = some 1000000 ∧ (∀ e ∈ station.auth.entries, e.disp ≠ .d3) ∧
     station.auth.tariffs.getD 1 none = some 1349 ∧ station.auth.entries.length < 16 ∧
     AuthorizeFits .single ⟨0, 0, 0, 0, 7, 1, 10, none, none⟩ ∧ station.auth.tariffs.getD 7 none = none ∧
     (∃ e ∈ station.auth.entries, e.disp = .d0) ∧ ¬ AuthorizeFits .fleetRun { a with group := 0 } ∧
     ¬ AuthorizeFits .single ⟨0, 0, 0, 0, 8, 1, 10, none, none⟩ ∧
     (let s := station.modAuth fun t => { t with entries := List.replicate 16 entry7 }
      16 ≤ s.auth.entries.length ∧ ∀ e ∈ s.auth.entries, e.disp ≠ .d3)) := by decide

theorem witness_AuthNumberIsFirstFree :
    (station.auth.entries.length ≤ 16 ∧ station.auth.lastNumber ≤ 65535 ∧ 65534 < 65535) ∧
    (∃ t, exec (.authorize .sales (some ⟨1, 0, 5, 0, 1, 3000, 60, none, none⟩)) station = .next t ∧
      t.port.slots.sales.status = .ok) ∧
    (∃ t, exec .powerOnReset station = .next t) ∧ ∃ t, exec .warmReset station = .next t :=
  ⟨by decide, ⟨_, rfl, by decide⟩, ⟨_, rfl⟩, _, rfl⟩

theorem witness_PriceLinesAndPendingEntries_entries :
    station.powered = true ∧ findEntry station 8 = none ∧ findEntry station 7 = some entry7 ∧ entry7.bound = false ∧
    entry7.timer.isSome = true ∧ findEntry flowing 7 = some { entry7 with bound := true, timer := none } := by decide

theorem witness_RevokeFreesAndMarks :
    (flowing.powered = true ∧ authLawful flowing = true ∧ flowing.auth.revocation = none ∧ sessionsLawful closing = true ∧
     (withRevocation station).auth.revocation.isSome = true ∧ authLawful (withRevocation station) = true ∧ 1 < 2) ∧
    (flowing.auth.entries.any fun e => e.bound && e.disp == .d0) = true ∧ (flowing.sess .d0).phase ≠ .idle ∧
    (flowing.sess .d0).phase.active = true ∧ (closing.sess .d0).phase = .closing ∧ (committing.sess .d0).phase = .commitWait ∧
    (station.auth.entries.any fun e => e.bound) = false := by decide

/-- An array of one record, in stream mode, and the scan not yet done. -/
theorem witness_ExportAndRelease :
    (station.powered = true ∧ State.reset.log.view = none) ∧
    (let v : LogView := ⟨2047, some 1, some 1, 1⟩
     let s := station.modLog fun l =>
       { l with array := [(0, .sale fillSale)], view := some v, stream := true, delivered := 1 }
     s.log.view = some v ∧ s.log.stream = true ∧ s.log.cursor ≤ v.newest.getD 0 ∧
     Memory.read s.log.array ((s.log.cursor - 1) % 2048) = some (.sale fillSale) ∧ 0 ≤ s.log.retained.release ∧
     v.newest.getD 0 + 1 < 3 ∧ s.log.retained.release < 1 ∧ 2 ≤ v.newest.getD 0 + 1 ∧
     max s.log.retained.release (min 0 s.log.delivered) = s.log.retained.release ∧
     s.log.retained.release < max s.log.retained.release (min 1 s.log.delivered)) ∧
    station.log.stream = false ∧
    (let s := station.modLog fun l => { l with stream := true }
     (0 : Nat) < s.log.cursor) := by decide

/-- A session's record, a calibration record, a block, and operations carried across a reset. -/
theorem witness_ArrayOperationsComplete :
    (committing.log.op = .committing { source := .session .d0, record := .sale fillSale } 0 1 ∧
     committing.log.carried = false ∧ committing.log.recoveryLeft = 0 ∧
     committing.log.view = some { erased := 2047, oldest := none, newest := none, writePos := 1 } ∧
     boundEntry committing .d0 = some { entry7 with bound := true, timer := none } ∧ entry7.kind = .single) ∧
    (committing.modLog fun l => { l with carried := true }).log.carried = true ∧
    (let s := committing.modAuth fun a => { a with entries := a.entries.map fun e => { e with kind := .fleetRun, vehicles := some 2 } }
     (boundEntry s .d0).map (fun x => (x.kind, x.vehicles, x.revokeOnClose)) = some (.fleetRun, some 2, false)) ∧
    (let s := station.modLog fun l => { l with op := .erasing 63 }
     s.log.op = .erasing 63 ∧ s.log.carried = false ∧ s.log.queue = [] ∧ s.log.view.isSome = true) ∧
    (let s := (State.reset.modLog fun l =>
       { l with op := .committing { source := .recovered .d0, record := .sale fillSale } 0 1, recoveryLeft := 1,
                view := some { erased := 2047, oldest := none, newest := none, writePos := 1 } })
     s.log.view.isSome = true ∧ s.log.carried = false ∧ s.fault.mode = .starting ∧ s.fault.demand = false ∧
     1 ≤ s.log.recoveryLeft) ∧
    (station.modLog fun l =>
      { l with op := .committing { source := .calibration, record := .cal ⟨.d1, 0, 1, 77, 10000, 9920, 18, false⟩ } 0 1 }).log.op =
      .committing { source := .calibration, record := .cal ⟨.d1, 0, 1, 77, 10000, 9920, 18, false⟩ } 0 1 ∧
    station.log.op = .idle := by decide

theorem witness_ScanLeavesStarting :
    (let s := State.reset
     s.powered = true ∧ s.log.view = none ∧ s.log.op = .idle ∧ s.log.array = [] ∧ s.log.queue = [] ∧ s.log.recoveryLeft = 0 ∧
     s.log.reserved = 0 ∧ s.meter.change = none ∧ s.fault.mode = .starting ∧ s.log.retained.marker = false ∧
     s.fault.severity.retainLost = .shutdown ∧ s.fault.firstSevere = none) ∧
    (∀ d, (State.reset.sess d).phase = .idle) ∧
    (let s := State.reset.modLog fun l => { l with retained := { l.retained with marker := true } }
     s.log.view = none ∧ s.log.retained.marker = true ∧ s.log.retained.slots = .same none ∧ s.fault.demand = false) ∧
    station.log.view ≠ none :=
  ⟨by decide, by intro d; cases d <;> decide, by decide, by decide⟩

/-- A new part's empty array, and one record in the array with a slot and a change to recover. -/
theorem witness_ScanRecoversRecords :
    (let s := State.reset.modLog fun l => { l with retained := { l.retained with marker := true } }
     s.powered = true ∧ s.log.view = none ∧ s.log.op = .idle ∧ s.log.queue = [] ∧ s.log.offers = [] ∧ s.log.reserved = 0 ∧
     s.log.recoveryLeft = 0 ∧ s.log.retained.marker = true ∧ s.fault.mode = .starting ∧ s.fault.demand = false ∧
     s.log.array = []) ∧
    (let s := (State.reset.modLog fun l =>
       { l with
         array := [(0, .sale fillSale)],
         retained := { l.retained with
           marker := true, slots := { d0 := some { fillSlot with committing := some 1, pulses := 36690 }, d1 := none,
                                      d2 := some { fillSlot with pulses := 5 }, d3 := some fillSlot } } }).modMeter fun m =>
         { m with change := some { disp := .d1, oldFactor := 10000, newFactor := 9920, counter := 18, time := 77,
                                   timeUnset := false, recorded := false } }
     s.log.view = none ∧ (∀ c ∈ s.log.array, c.2.seq ≤ 1) ∧ (∃ c ∈ s.log.array, c.2.seq = 1) ∧
     holds (exec .scanCompletion s) (fun t => t.log.recoveryLeft == 2 && t.log.queue.length == 1) = true) := by decide

/-- Block 0 full of released records, with the newest in slot 32: an accepted RELEASE of all starts its erase. -/
theorem witness_EraseTakesReleasedBlocksOnly :
    (let record (n : Nat) : LogRecord := .cal ⟨.d1, 1, n, 0, 10000, 9920, n, false⟩
     let s := station.modLog fun l =>
       { l with
         array := (List.range 33).map fun n => (n, record (n + 1)), view := some ⟨2015, some 1, some 33, 33⟩, delivered := 33 }
     arrayLawful s = true ∧ s.log.op ≠ .erasing 0 ∧
     holds (exec (.release .sales (some 32)) s) (fun t => t.log.op == .erasing 0) = true) := by decide

theorem witness_FaultIsCapturedAndCounted :
    (station.fault.severity.get .sensorRange = .note ∧ station.fault.severity.get .leakFlow ≠ .note) ∧
    station.fault.firstNote = none ∧ station.fault.firstSevere = none ∧
    (recordFault .sensorRange .station none station).fault.firstNote ≠ none ∧
    (recordFault .leakFlow (.disp .d0) none flowing).fault.firstSevere ≠ none ∧ (flowing.sess .d0).phase ≠ .idle ∧
    (station.sess .d0).phase = .idle := by decide

/-- Each severity at each kind of site, in RUN, in STARTING and in SHUTDOWN. -/
theorem witness_FaultActionFollowsSeverity :
    (flowing.fault.severity.get .bankStale = .note ∧ flowing.fault.severity.get .leakFlow = .stop ∧
     flowing.fault.severity.get .pressureLimit = .shutdown ∧ flowing.fault.severity.balanceMismatch ≠ .shutdown ∧
     flowing.fault.mode = .run ∧ flowing.fault.locked.get .d0 = false ∧ (flowing.sess .d0).phase.active = true ∧
     (flowing.sess .d1).phase.active = false) ∧
    (lanesLawful flowing = true ∧ (flowing.bank .b0).holder = some (.disp .d0) ∧ (flowing.bank .b0).service = .inService) ∧
    (State.reset.fault.mode = .starting ∧ (station.modFault fun f => { f with mode := .shutdown }).fault.mode = .shutdown) := by
  decide

theorem witness_FaultMonitorCommands :
    station.powered = true ∧ 14 < 15 ∧ 2 < 3 ∧ faultKindOf 1 = some .sensorRange ∧ faultKindOf 14 = some .calSwitch ∧
    severityOf 0 = some .note ∧ severityOf 2 = some .shutdown ∧ 1 < 2 ∧ station.fault.counters.length = 4 ∧ 3 < 4 ∧
    station.fault.counters[3]? = some { sel := none, value := 0 } ∧ counterSelOf 0 = some none ∧
    counterSelOf 14 = some (some .calSwitch) := by decide

theorem witness_FaultMonitorCommands_station :
    station.powered = true ∧ station.fault.esdArmed = true ∧ State.reset.fault.esdArmed = false ∧
    station.fault.esdActive = false ∧ State.reset.fault.mode = .starting ∧ station.fault.firstSevere = none ∧
    station.inv.table.state = .valid ∧ station.fault.mode = .run ∧
    (let s := station.modFault fun f => { f with mode := .restricted, esdArmed := false }
     s.fault.mode ≠ .starting ∧ s.fault.esdArmed = false) ∧
    (let s := station.modFault fun f => { f with mode := .restricted, esdActive := true }
     s.fault.mode ≠ .starting ∧ s.fault.esdArmed = true ∧ s.fault.esdActive = true) ∧
    (let s := recordFault .leakFlow (.disp .d0) none (station.modFault fun f => { f with mode := .restricted })
     s.fault.mode ≠ .run ∧ s.fault.mode ≠ .starting ∧ s.fault.esdArmed = true ∧ s.fault.esdActive = false ∧
     s.fault.firstSevere ≠ none) ∧
    (station.modInv fun i => { i with table := .reset }).inv.table.state ≠ .valid ∧ 3 < 4 ∧ Disp.ofNat? 3 = some .d3 := by decide

theorem witness_EsdTripStopsStation :
    flowing.powered = true ∧ flowing.fault.esdArmed = true ∧ flowing.fault.esdActive = false ∧
    flowing.fault.severity.esdInput = .shutdown ∧ flowing.fault.mode = .run ∧ sessionsLawful flowing = true ∧
    lanesLawful flowing = true ∧ (flowing.sess .d0).phase.active = true ∧ (flowing.sess .d1).phase.active = false := by decide

theorem witness_PortInterfaceCommands :
    station.powered = true ∧ Port.sales ≠ .plant ∧ 4294967295 < 4294967296 ∧ 4294967295 ≤ 4294967295 ∧ 65535 < 65536 ∧
    1 ≤ 65535 ∧ station.port.idWritten = false ∧
    (station.modPort fun p => { p with idWritten := true }).port.idWritten = true ∧ station.port.clock < 4294967295 ∧
    (station.modPort fun p => { p with clock := 4294967295 }).port.clock = 4294967295 := by decide

theorem witness_ResetsAndSupplies :
    (flowing.powered = true ∧ flowing.fault.esdActive = false) ∧
    (let s := flowing.modFault fun f => { f with esdActive := true }
     s.fault.esdArmed = true ∧ s.fault.esdActive = true ∧ s.fault.severity.esdInput = .shutdown) ∧
    ({ flowing with powered := false } : State).powered = false ∧
    requestPort (.readStatus .plant) = some (.plant, onAny) :=
  ⟨by decide, by decide, rfl, rfl⟩

/-- The laws hold in a fill, and a step from it answers a next state. -/
theorem witness_EveryStep :
    (claimsLawful flowing = true ∧ linesLawful flowing = true ∧ massesLawful flowing = true ∧ severitiesLawful flowing = true ∧
     arrayLawful committing = true ∧
     authLawful flowing = true ∧ sessionsLawful flowing = true ∧ lanesLawful flowing = true ∧ waitersServed bankWaiting = true ∧
     bankWaiting.lane.waitList ≠ [] ∧ sessionsLawful bankWaiting = true ∧ lanesLawful bankWaiting = true ∧
     sessionsLawful requesting = true ∧ lanesLawful requesting = true ∧ requestsLawful requesting = true) ∧
    (∃ t, step { requesting with pending := [.nozzleOff (.disp .d0)] } = .next t) ∧
    (∃ t, step { flowing with pending := [.meterPulse .d0] } = .next t) ∧
    (∃ t, step { committing with pending := [.commitCompletion] } = .next t) ∧
    ∃ t, step { bankWaiting with pending := [.yieldTimerExpiry .d0] } = .next t :=
  ⟨by decide, ⟨_, rfl⟩, ⟨_, rfl⟩, ⟨_, rfl⟩, _, rfl⟩

theorem witness_SessionStartsOnlyAtNozzleOn :
    sessionsLawful station = true ∧ (station.sess .d0).phase = .idle ∧
    ∃ t, exec (.nozzleOn (.disp .d0) (some ⟨1980, some 150, some 2000, some 250⟩)) station = .next t ∧
      (t.sess .d0).phase ≠ .idle := ⟨by decide, by decide, _, rfl, by decide⟩

theorem witness_FrameOfRequestReadsBack :
    (Instr.coldSet .plant (some 25000)).wf = true ∧
    (Instr.coldSet .plant (some 25000)).framed = some ⟨.plant, .coldSet, [.num 25000]⟩ := by decide

end Sys2Proof.Tests
end

section
/-! PROOF. Trimming (R79): the order by stamp, what one trim does to the sessions, and what trimming a list of dispensers adds
up to. -/

namespace Sys2Proof.Machine

section
variable (s : State)

/-! ### The order by stamp -/

/-- The order in which byStamp sorts, an absent stamp standing for 0. -/
abbrev stampLE : Disp → Disp → Prop := Order.Preimage (fun d => (s.sess d).stamp.getD 0) (· ≤ ·)

theorem insertByStamp_eq_orderedInsert (d : Disp) (ds : List Disp) :
    insertByStamp s d ds = ds.orderedInsert (stampLE s) d := by
  induction ds with
  | nil => rfl
  | cons x xs ih => rw [insertByStamp, ih]; rfl

theorem byStamp_eq_insertionSort (ds : List Disp) : byStamp s ds = ds.insertionSort (stampLE s) := by
  induction ds with
  | nil => rfl
  | cons d ds ih =>
    calc byStamp s (d :: ds) = insertByStamp s d (byStamp s ds) := rfl
      _ = (d :: ds).insertionSort (stampLE s) := by
        rw [ih, insertByStamp_eq_orderedInsert, List.insertionSort_cons]

theorem byStamp_perm (ds : List Disp) : (byStamp s ds).Perm ds := by
  rw [byStamp_eq_insertionSort]; exact List.perm_insertionSort _ _

theorem byStamp_sorted (ds : List Disp) : (byStamp s ds).Pairwise (stampLE s) := by
  rw [byStamp_eq_insertionSort]; exact List.pairwise_insertionSort _ _

/-- The order in which R79 takes the sessions. -/
def newestFirst : List Disp := (byStamp s Disp.all).reverse

theorem trimClaims_eq : trimClaims s = ((newestFirst s).foldl trimOne (s, claimSum s - s.cold.reserve)).1 := rfl

theorem newestFirst_perm : (newestFirst s).Perm Disp.all := (List.reverse_perm _).trans (byStamp_perm s _)

theorem newestFirst_nodup : (newestFirst s).Nodup := (newestFirst_perm s).nodup_iff.mpr (by decide)

theorem mem_newestFirst (d : Disp) : d ∈ newestFirst s :=
  (newestFirst_perm s).mem_iff.mpr (by cases d <;> decide)

theorem newestFirst_sorted : (newestFirst s).Pairwise fun e d => stampLE s d e :=
  List.pairwise_reverse.mpr (byStamp_sorted s _)

theorem sum_newestFirst (t : State) : ((newestFirst s).map fun d => (t.sess d).claim).sum = claimSum t :=
  ((newestFirst_perm s).map _).sum_eq

end

/-! ### One trim -/

/-- A session whose claim a trim has lowered to n (R79). -/
def Session.trimmed (r : Session) (n : Nat) : Session :=
  { r with claim := n, coldShortfall := r.coldShortfall || decide (n = 0 ∧ r.claim ≠ 0) }

@[simp] theorem Session.trimmed_claim (r : Session) (n : Nat) : (r.trimmed n).claim = n := rfl

theorem Session.trimmed_self (r : Session) : r.trimmed r.claim = r := by
  have never : ¬ (r.claim = 0 ∧ r.claim ≠ 0) := fun ⟨h, h'⟩ => h' h
  simp [trimmed, never]

theorem modBilled_sess (d e : Disp) (f : Session → Session) (s : State) :
    (modBilled d f s).sess e = if e = d then f (s.sess d) else s.sess e := by
  rw [← State.modSess_sess]; simp only [State.sess, modBilled, syncSlot_unit]

section
variable (s : State) (x : Nat)

theorem trimOne_zero (d : Disp) : trimOne (s, 0) d = (s, 0) := by simp [trimOne]

theorem trimOne_excess (d : Disp) : (trimOne (s, x) d).2 = x - (s.sess d).claim := by
  unfold trimOne; dsimp only; split <;> dsimp only <;> omega

/-- R79: a trim of d lowers d's claim by the excess, toward 0, and touches no other session. -/
theorem trimOne_sess (d e : Disp) :
    (trimOne (s, x) d).1.sess e = if e = d then (s.sess d).trimmed ((s.sess d).claim - x) else s.sess e := by
  unfold trimOne; dsimp only
  split
  · next uncut =>
    have keep : (s.sess d).claim - x = (s.sess d).claim := by omega
    rw [keep, Session.trimmed_self]
    split
    · next h => rw [h]
    · rfl
  · next cut =>
    have left : (s.sess d).claim - min (s.sess d).claim x = (s.sess d).claim - x := by omega
    have toZero : ((s.sess d).claim == min (s.sess d).claim x) =
        decide ((s.sess d).claim - x = 0 ∧ (s.sess d).claim ≠ 0) := by
      rw [Bool.eq_iff_iff, beq_iff_eq, decide_eq_true_iff]; omega
    rw [modBilled_sess, left, toZero]; rfl

theorem trimOne_sess_same (d : Disp) : (trimOne (s, x) d).1.sess d = (s.sess d).trimmed ((s.sess d).claim - x) := by
  rw [trimOne_sess, if_pos rfl]

theorem trimOne_sess_other {d e : Disp} (h : e ≠ d) : (trimOne (s, x) d).1.sess e = s.sess e := by
  rw [trimOne_sess, if_neg h]

end

/-! ### Trimming a list of dispensers -/

theorem trims_zero (s : State) (ds : List Disp) : ds.foldl trimOne (s, 0) = (s, 0) := by
  induction ds with
  | nil => rfl
  | cons d ds ih => rw [List.foldl_cons, trimOne_zero, ih]

theorem trims_sess_of_notMem {e : Disp} {ds : List Disp} (st : State × Nat) (h : e ∉ ds) :
    (ds.foldl trimOne st).1.sess e = st.1.sess e := by
  induction ds generalizing st with
  | nil => rfl
  | cons d ds ih =>
    obtain ⟨hd, hds⟩ := List.ne_and_not_mem_of_not_mem_cons h
    rw [List.foldl_cons, ih _ hds, trimOne_sess_other _ _ hd]

/-- The head of a list that does not name it again is trimmed by the whole excess. -/
theorem trims_sess_head (s : State) (x : Nat) {d : Disp} {ds : List Disp} (h : d ∉ ds) :
    ((d :: ds).foldl trimOne (s, x)).1.sess d = (s.sess d).trimmed ((s.sess d).claim - x) := by
  rw [List.foldl_cons, trims_sess_of_notMem _ h, trimOne_sess_same]

/-- R79: no claim rises, and of a session only the claim and the flag change. -/
theorem trims_sess {ds : List Disp} (hn : ds.Nodup) (st : State × Nat) (e : Disp) :
    ∃ n ≤ (st.1.sess e).claim, (ds.foldl trimOne st).1.sess e = (st.1.sess e).trimmed n := by
  induction ds generalizing st with
  | nil => exact ⟨_, le_rfl, (Session.trimmed_self _).symm⟩
  | cons d ds ih =>
    obtain ⟨hd, hds⟩ := List.nodup_cons.mp hn
    by_cases he : e = d
    · subst he
      exact ⟨_, Nat.sub_le _ _, trims_sess_head _ _ hd⟩
    · rw [List.foldl_cons, ← trimOne_sess_other st.1 st.2 he]
      exact ih hds _

/-- R79: the claims of the list come down by the excess, toward 0. -/
theorem trims_sum {ds : List Disp} (hn : ds.Nodup) (s : State) (x : Nat) :
    (ds.map fun d => ((ds.foldl trimOne (s, x)).1.sess d).claim).sum = (ds.map fun d => (s.sess d).claim).sum - x := by
  induction ds generalizing s x with
  | nil => simp
  | cons d ds ih =>
    obtain ⟨hd, hds⟩ := List.nodup_cons.mp hn
    have rest : (ds.map fun e => (((d :: ds).foldl trimOne (s, x)).1.sess e).claim).sum =
        (ds.map fun e => (s.sess e).claim).sum - (x - (s.sess d).claim) := by
      rw [List.foldl_cons, ← trimOne_excess, ih hds]
      congr 2
      exact List.map_congr_left fun e he => by rw [trimOne_sess_other _ _ (ne_of_mem_of_not_mem he hd)]
    rw [List.map_cons, List.sum_cons, rest, trims_sess_head _ _ hd, Session.trimmed_claim, List.map_cons, List.sum_cons]
    omega

/-- From s to t, d's claim is lowered only if e's is used up. -/
def LoweredAfter (s t : State) (e d : Disp) : Prop := (t.sess d).claim < (s.sess d).claim → (t.sess e).claim = 0

/-- R79: a claim is lowered only once every claim before it in the list is 0. -/
theorem trims_inOrder {ds : List Disp} (hn : ds.Nodup) (s : State) (x : Nat) :
    ds.Pairwise (LoweredAfter s (ds.foldl trimOne (s, x)).1) := by
  induction ds generalizing s x with
  | nil => exact .nil
  | cons e ds ih =>
    obtain ⟨he, hds⟩ := List.nodup_cons.mp hn
    have tail := ih hds (trimOne (s, x) e).1 (trimOne (s, x) e).2
    refine .cons (fun d hd lowered => ?_) (tail.imp_of_mem fun _ hd h => ?_)
    · rw [trims_sess_head _ _ he, Session.trimmed_claim]
      by_contra claimLeft
      have spent : trimOne (s, x) e = ((trimOne (s, x) e).1, 0) := by
        rw [Prod.ext_iff, trimOne_excess]; exact ⟨rfl, by omega⟩
      rw [List.foldl_cons, spent, trims_zero, trimOne_sess_other _ _ (ne_of_mem_of_not_mem hd he)] at lowered
      exact lt_irrefl _ lowered
    · rwa [LoweredAfter, trimOne_sess_other _ _ (ne_of_mem_of_not_mem hd he)] at h

/-! ### Trimming the station -/

/-- R79: the sum of the claims comes down to the reserve, and no further. -/
theorem trimClaims_claimSum (s : State) : claimSum (trimClaims s) = min (claimSum s) s.cold.reserve := by
  rw [← sum_newestFirst s, trimClaims_eq, trims_sum (newestFirst_nodup s), sum_newestFirst]
  omega

theorem trimClaims_sess (s : State) (d : Disp) :
    ∃ n ≤ (s.sess d).claim, (trimClaims s).sess d = (s.sess d).trimmed n :=
  trims_sess (newestFirst_nodup s) (s, _) d

/-- R79: newest first. -/
theorem trimClaims_newestFirst (s : State) {d e : Disp} (newer : (s.sess d).stamp.getD 0 < (s.sess e).stamp.getD 0) :
    LoweredAfter s (trimClaims s) e d := by
  have inOrder : (newestFirst s).Pairwise (LoweredAfter s (trimClaims s)) := trims_inOrder (newestFirst_nodup s) s _
  have forward : (newestFirst s).Pairwise fun e d => ¬ stampLE s e d → LoweredAfter s (trimClaims s) e d :=
    inOrder.imp fun after => imp_intro after
  have backward : (newestFirst s).Pairwise fun d e => ¬ stampLE s e d → LoweredAfter s (trimClaims s) e d :=
    (newestFirst_sorted s).imp fun older newer => absurd older newer
  exact forward.forall_of_forall_of_flip (fun d _ older => absurd (refl_of (stampLE s) d) older) backward
    (mem_newestFirst s e) (mem_newestFirst s d) (not_le_of_gt newer)

/-- Settles O25, from what trimming a list without repetitions does, for the list of all dispensers, newest first. -/
theorem trimLowersNewestClaimsFirst : Obligations.TrimLowersNewestClaimsFirst := by
  unfold Obligations.TrimLowersNewestClaimsFirst
  refine fun s => ⟨trimClaims_claimSum s, trimClaims_cold s, fun d => ?_, fun d e => trimClaims_newestFirst s⟩
  obtain ⟨n, hn, ht⟩ := trimClaims_sess s d
  rw [ht]
  exact ⟨hn, rfl⟩

end Sys2Proof.Machine
end

section
/-! PROOF. CAL_UNLOCK (R123): an open window holds the plant attention line deasserted, and what the command does for each level
of the switch. -/

namespace Sys2Proof.Machine

section
variable (s : State)

/-- R124: an open window masks the events of the plant port. -/
theorem lineWanted_plant_open (h : s.meter.window ≠ 0) : lineWanted s .plant = false := by
  simp only [lineWanted, beq_eq_false_iff_ne.mpr h, Bool.and_false]

theorem setWindow_open {n : Nat} (h : n ≠ 0) :
    setWindow n s = { s with
      meter := { s.meter with window := n },
      port := { s.port with attention := s.port.attention.set .plant false } } := by
  rw [setWindow, refreshLine, lineWanted_plant_open _ h]
  rfl

theorem calUnlock_deasserted (h : s.meter.calSwitch = false) : calUnlock s = (s, refuse .notAllowed) := by
  simp [calUnlock, h]

theorem calUnlock_asserted (h : s.meter.calSwitch) : calUnlock s = (setWindow 4 s, ok [.num 4]) := by
  simp [calUnlock, h]

/-- R123: on the plant port CAL_UNLOCK only places its reply; it ends no stream and is not counted. -/
theorem exec_calUnlock_plant (h : s.powered) :
    exec (.calUnlock .plant) s = .next (placeReply .plant (calUnlock s).2 (calUnlock s).1) :=
  congrArg Host.Outcome.next (requestWith_taken s (endStream .plant) id .plant onPlant calUnlock h rfl)

end

/-- Settles O30, from what CAL_UNLOCK answers for each level of the switch. -/
theorem calUnlockOpensWindow : Obligations.CalUnlockOpensWindow := by
  unfold Obligations.CalUnlockOpensWindow
  intro s powered
  rw [exec_calUnlock_plant s powered]
  constructor
  · intro deasserted
    rw [calUnlock_deasserted s deasserted]
  · intro asserted
    rw [calUnlock_asserted s asserted, setWindow_open s (by decide)]
    rfl

end Sys2Proof.Machine
end

section
/-! PROOF. Authorization numbers (R135): the numbers after the last-assigned one in closed form, the search for a free one among
them, what an accepted AUTHORIZE does to the table, and the table after either reset. -/

namespace Sys2Proof.Machine

/-! ### The numbers in turn -/

theorem numberAfter_of_lt {n : Nat} (h : n < 65535) : numberAfter n = n + 1 := if_neg (by omega)

/-- R135: the numbers after n go round from 65535 to 1. -/
theorem numberAfter_iterate_succ {n : Nat} (hn : n ≤ 65535) (k : Nat) : numberAfter^[k + 1] n = (n + k) % 65535 + 1 := by
  induction k with
  | zero => rw [Function.iterate_one, numberAfter]; split <;> omega
  | succ k ih => rw [Function.iterate_succ_apply', ih, numberAfter]; split <;> omega

/-- 65535 numbers in turn are all different. -/
theorem numberAfter_iterate_injOn {n m : Nat} (hn : n ≤ 65535) (hm : m ≤ 65535) :
    Set.InjOn (fun k => numberAfter^[k + 1] n) (Finset.range m) := by
  intro i hi j hj same
  simp only [Finset.coe_range, Set.mem_Iio] at hi hj
  simp only [numberAfter_iterate_succ hn] at same
  omega

/-! ### The search for a free number -/

/-- An entry holds the number n. -/
def NumberHeld (es : List AuthEntry) (n : Nat) : Prop := ∃ e ∈ es, e.number = n

theorem numberHeld_iff_any (es : List AuthEntry) (n : Nat) : NumberHeld es n ↔ es.any (fun e => e.number == n) := by
  simp [NumberHeld]

/-- Each entry holds one number, so no more numbers in turn are held than there are entries. -/
theorem le_length_of_numbersHeld {es : List AuthEntry} {n m : Nat} (hn : n ≤ 65535) (hm : m ≤ 65535)
    (held : ∀ j < m, NumberHeld es (numberAfter^[j + 1] n)) : m ≤ es.length := by
  have intoNumbers : Set.MapsTo (fun k => numberAfter^[k + 1] n) (Finset.range m) (es.map (·.number)).toFinset :=
    fun j hj => by simpa [NumberHeld] using held j (by simpa using hj)
  calc m = (Finset.range m).card := (Finset.card_range m).symm
    _ ≤ (es.map (·.number)).toFinset.card :=
      Finset.card_le_card_of_injOn _ intoNumbers (numberAfter_iterate_injOn hn hm)
    _ ≤ (es.map (·.number)).length := List.toFinset_card_le _
    _ = es.length := List.length_map _

/-- The search stops at a number past held ones only, and before its fuel is spent only at a free one. -/
theorem firstFreeNumber_spec (es : List AuthEntry) (fuel n : Nat) :
    ∃ k ≤ fuel, firstFreeNumber es fuel n = numberAfter^[k] n ∧ (∀ j < k, NumberHeld es (numberAfter^[j] n)) ∧
      (NumberHeld es (numberAfter^[k] n) → k = fuel) := by
  induction fuel generalizing n with
  | zero => exact ⟨0, le_rfl, rfl, nofun, fun _ => rfl⟩
  | succ fuel ih =>
    rw [firstFreeNumber]
    split
    · next taken =>
      obtain ⟨k, hk, found, before, spent⟩ := ih (numberAfter n)
      refine ⟨k + 1, by omega, found, fun j hj => ?_, fun held => congrArg (· + 1) (spent held)⟩
      cases j with
      | zero => exact (numberHeld_iff_any es n).mpr taken
      | succ j => exact before j (by omega)
    · next free => exact ⟨0, by omega, rfl, nofun, fun held => absurd ((numberHeld_iff_any es n).mp held) free⟩

/-- R135: with fewer than 65535 entries, the number assigned is the first of the numbers in turn that no entry holds. -/
theorem nextNumber_firstFree (x : AuthTable) (few : x.entries.length < 65535) (hn : x.lastNumber ≤ 65535) :
    ∃ k ≤ x.entries.length, nextNumber x = numberAfter^[k + 1] x.lastNumber ∧
      ¬ NumberHeld x.entries (numberAfter^[k + 1] x.lastNumber) ∧
      ∀ j < k, NumberHeld x.entries (numberAfter^[j + 1] x.lastNumber) := by
  obtain ⟨k, hk, found, before, spent⟩ :=
    firstFreeNumber_spec x.entries x.entries.length (numberAfter x.lastNumber)
  refine ⟨k, hk, found, fun held => ?_, before⟩
  have allHeld : ∀ j < k + 1, NumberHeld x.entries (numberAfter^[j + 1] x.lastNumber) := fun j hj =>
    (Nat.lt_succ_iff_lt_or_eq.mp hj).elim (before j) fun h => h ▸ held
  have fits : k + 1 ≤ x.entries.length := le_length_of_numbersHeld hn (by omega) allHeld
  exact absurd (spent held) (by omega)

/-! ### An accepted AUTHORIZE -/

theorem mem_insertEntry_self (e : AuthEntry) (es : List AuthEntry) : e ∈ insertEntry e es := by
  induction es with
  | nil => exact List.mem_singleton_self e
  | cons x xs ih =>
    rw [insertEntry]
    split
    · exact List.mem_cons_self
    · exact List.mem_cons_of_mem _ ih

theorem addEntry_auth (e : AuthEntry) (s : State) :
    (addEntry e s).auth = { s.auth with entries := insertEntry e s.auth.entries, lastNumber := e.number } := by
  simp [addEntry]

/-- The checks that an accepted AUTHORIZE has passed leave it the entry of R134. -/
theorem authorizeChecked_accepted {a : AuthorizeArgs} {d : Disp} {kind : AuthKind} {s : State}
    (accepted : (authorizeChecked a d kind s).2.status = .ok) :
    ∃ price, (authorizeChecked a d kind s).1 = addEntry (newEntry a d kind price (nextNumber s.auth)) s := by
  unfold authorizeChecked at accepted ⊢
  split at accepted
  · nomatch accepted
  next free =>
  rw [if_neg free]
  split at accepted
  · nomatch accepted
  next price _ =>
  split at accepted
  · nomatch accepted
  next room => exact ⟨price, if_neg room ▸ rfl⟩

theorem authorize_accepted {a : AuthorizeArgs} {s : State} (accepted : (authorize a s).2.status = .ok) :
    ∃ e, e.number = nextNumber s.auth ∧ (authorize a s).1 = addEntry e s := by
  unfold authorize at accepted ⊢
  split at accepted
  · next d kind _ _ =>
    split at accepted
    · nomatch accepted
    next inRange =>
    split at accepted
    · nomatch accepted
    next grouped =>
    obtain ⟨price, added⟩ := authorizeChecked_accepted accepted
    refine ⟨newEntry a d kind price (nextNumber s.auth), rfl, ?_⟩
    simp only [if_neg inRange, if_neg grouped, added]
  · nomatch accepted

@[simp] theorem endStream_auth (p : Port) (s : State) : (endStream p s).auth = s.auth := by cases p <;> rfl

/-- On the sales port AUTHORIZE ends stream mode, and its reply tells whether it was accepted. -/
theorem exec_authorize_sales (a : AuthorizeArgs) {s : State} (powered : s.powered) :
    exec (.authorize .sales (some a)) s =
      .next (placeReply .sales (authorize a (endStream .sales s)).2 (authorize a (endStream .sales s)).1) :=
  congrArg Host.Outcome.next (requestWith_taken s (endStream .sales) id .sales onSales (authorize a) powered rfl)

/-- R135: the number assigned becomes the last-assigned one, and an entry holds it. -/
theorem exec_authorize_assigns {a : AuthorizeArgs} {s t : State} (powered : s.powered)
    (stepped : exec (.authorize .sales (some a)) s = .next t) (accepted : t.port.slots.sales.status = .ok) :
    t.auth.lastNumber = nextNumber s.auth ∧ NumberHeld t.auth.entries (nextNumber s.auth) := by
  rw [exec_authorize_sales a powered] at stepped
  cases stepped
  obtain ⟨e, number, added⟩ := authorize_accepted accepted
  have table : (placeReply .sales (authorize a (endStream .sales s)).2 (authorize a (endStream .sales s)).1).auth =
      { s.auth with entries := insertEntry e s.auth.entries, lastNumber := e.number } := by
    rw [added, placeReply, State.modPort_auth, addEntry_auth, endStream_auth]
  rw [endStream_auth] at number
  rw [table]
  exact ⟨number, e, mem_insertEntry_self e _, number⟩

/-! ### The resets -/

theorem powerOnReset_auth (s : State) : (powerOnReset s).auth = .reset := rfl

@[simp] theorem recordFault_mode (k : FaultKind) (x : Site) (c : Option Consumer) (s : State) :
    (recordFault k x c s).fault.mode = s.fault.mode := by
  unfold recordFault FaultMonitor.capture
  dsimp only
  rw [addPlantEvent_fault, State.modFault_fault]
  (repeat' split) <;> rfl

/-- R183: in STARTING a fault at the station only sets the shutdown demand, so no entry is handed back. -/
theorem raiseStation_auth_of_starting (k : FaultKind) {s : State} (starting : s.fault.mode = .starting) :
    (raiseStation k s).auth = s.auth := by
  unfold raiseStation
  dsimp only
  split
  · simp
  · rw [if_neg (by simp [starting]), recordFault_auth]
  · simp [shutdownAction, starting]

theorem warmReset_auth (s : State) : (warmReset s).auth = .reset := by
  unfold warmReset
  dsimp only
  split
  · exact raiseStation_auth_of_starting _ rfl
  · rfl

/-- Settles O35, from the search for a free number, and from what an accepted AUTHORIZE and either reset leave in the table. -/
theorem authNumberIsFirstFree : Obligations.AuthNumberIsFirstFree := by
  unfold Obligations.AuthNumberIsFirstFree
  refine ⟨fun x few hn => ?_, fun n => numberAfter_of_lt, rfl,
    fun a s t => exec_authorize_assigns, fun s t stepped => ?_, fun s t powered stepped => ?_⟩
  · obtain ⟨k, hk, found, free, before⟩ := nextNumber_firstFree x (by omega) hn
    exact ⟨k, hk.trans few, found, fun e he same => free ⟨e, he, same⟩, before⟩
  · cases stepped
    rw [powerOnReset_auth]; rfl
  · have reset : exec .warmReset s = .next (warmReset s) := congrArg Host.Outcome.next (if_pos powered)
    cases reset.symm.trans stepped
    rw [warmReset_auth]; rfl

end Sys2Proof.Machine
end
